-- ==== Sys2Proof/Word.lean ====
section
/-! DEFINITION. The word types of the q7681 CORE and nothing else: what the spec treats as bits is a bit vector. -/

namespace Sys2Proof

/-- A 32-bit word of the host port, and a command word (20_memory.md R60, 30_encoding.md R90). -/
abbrev Word := BitVec 32

/-- A byte of BUF or of the stream (10_state.md R26, R36). -/
abbrev Byte := BitVec 8

/-- A 13-bit scalar register or coefficient cell (10_state.md R21, R22). -/
abbrev Coef := BitVec 13

/-- A register index: an unsigned 5-bit field, every value legal (30_encoding.md R93, R94). -/
abbrev Reg := Fin 32

/-- A lane of a polynomial, 0 to 63 (10_state.md R22). -/
abbrev Lane := Fin 64

/-- The 64 coefficients of a polynomial, coefficient 0 first (10_state.md R22). -/
abbrev Poly := Vector Coef 64

end Sys2Proof
end

