-- ==== Sys2Proof/Syntax.lean ====
section
/-! DEFINITION. The 21 commands of spec/opcode_table.json, one constructor a row, fields in the order D, A, B of
30_encoding.md R91. A command carries exactly the fields its format uses (R92). -/

namespace Sys2Proof

/-- A legal command (30_encoding.md R95). -/
inductive Instr where
  /-- NOP, format N (40_command.md R127). -/
  | nop
  /-- SADD, format RRR (41_scalar.md R141). -/
  | sadd (d a b : Reg)
  /-- SSUB, format RRR (41_scalar.md R142). -/
  | ssub (d a b : Reg)
  /-- SMUL, format RRR (41_scalar.md R143). -/
  | smul (d a b : Reg)
  /-- SINV, format RR (41_scalar.md R144). -/
  | sinv (d a : Reg)
  /-- PZERO, format RD (42_poly_arith.md R161). -/
  | pzero (d : Reg)
  /-- PADD, format RRR (42_poly_arith.md R162). -/
  | padd (d a b : Reg)
  /-- PSUB, format RRR (42_poly_arith.md R163). -/
  | psub (d a b : Reg)
  /-- PMUL, format RRR (42_poly_arith.md R164). -/
  | pmul (d a b : Reg)
  /-- PMAC, format RRR (42_poly_arith.md R165). -/
  | pmac (d a b : Reg)
  /-- NTT, format RR (43_ntt.md R182). -/
  | ntt (d a : Reg)
  /-- INTT, format RR (43_ntt.md R184). -/
  | intt (d a : Reg)
  /-- SAMPU, format RD (44_samplers.md R202). -/
  | sampu (d : Reg)
  /-- CBD1, format RD (44_samplers.md R204). -/
  | cbd1 (d : Reg)
  /-- CBD2, format RD (44_samplers.md R205). -/
  | cbd2 (d : Reg)
  /-- CMP10, format RA (45_codec.md R234). -/
  | cmp10 (a : Reg)
  /-- DEC10, format RD (45_codec.md R235). -/
  | dec10 (d : Reg)
  /-- CMP3, format RA (45_codec.md R236). -/
  | cmp3 (a : Reg)
  /-- DEC3, format RD (45_codec.md R237). -/
  | dec3 (d : Reg)
  /-- SER13, format RA (45_codec.md R238). -/
  | ser13 (a : Reg)
  /-- DES13, format RD (45_codec.md R239). -/
  | des13 (d : Reg)
deriving DecidableEq, Repr

end Sys2Proof
end

