-- ==== Sys2Proof/WellFormed.lean ====
section
/-! DEFINITION. When a command word is well formed. A register index is in range by its type (every 5-bit value is legal,
30_encoding.md R93), so no term of Instr is ill formed; what can be ill formed is a WORD, and the two checks are those of
R96 (the opcode) and R97 (the bits the format fixes to 0), read off the mask and match columns of R95. The decoder is
written apart from this table, from the field layout of R91 and R92; an obligation says that the two agree. -/

namespace Sys2Proof

/-- One row of the opcode map (30_encoding.md R95): a word is the command when `w &&& mask = pattern`. -/
structure OpcodeRow where
  mnemonic : String
  pattern : Word
  mask : Word
deriving DecidableEq, Repr

/-- The control and scalar rows of 30_encoding.md R95. -/
def opcodeRowsScalar : List OpcodeRow :=
  [⟨"NOP", 0x00000000#32, 0xFFFFFFFF#32⟩, ⟨"SADD", 0x04000000#32, 0xFC0007FF#32⟩, ⟨"SSUB", 0x08000000#32, 0xFC0007FF#32⟩,
   ⟨"SMUL", 0x0C000000#32, 0xFC0007FF#32⟩, ⟨"SINV", 0x10000000#32, 0xFC00FFFF#32⟩]

/-- The polynomial and transform rows of 30_encoding.md R95. -/
def opcodeRowsPoly : List OpcodeRow :=
  [⟨"PZERO", 0x40000000#32, 0xFC1FFFFF#32⟩, ⟨"PADD", 0x44000000#32, 0xFC0007FF#32⟩, ⟨"PSUB", 0x48000000#32, 0xFC0007FF#32⟩,
   ⟨"PMUL", 0x4C000000#32, 0xFC0007FF#32⟩, ⟨"PMAC", 0x50000000#32, 0xFC0007FF#32⟩, ⟨"NTT", 0x60000000#32, 0xFC00FFFF#32⟩,
   ⟨"INTT", 0x64000000#32, 0xFC00FFFF#32⟩]

/-- The sampler and codec rows of 30_encoding.md R95. -/
def opcodeRowsStream : List OpcodeRow :=
  [⟨"SAMPU", 0x80000000#32, 0xFC1FFFFF#32⟩, ⟨"CBD1", 0x84000000#32, 0xFC1FFFFF#32⟩, ⟨"CBD2", 0x88000000#32, 0xFC1FFFFF#32⟩,
   ⟨"CMP10", 0xA0000000#32, 0xFFE0FFFF#32⟩, ⟨"DEC10", 0xA4000000#32, 0xFC1FFFFF#32⟩, ⟨"CMP3", 0xA8000000#32, 0xFFE0FFFF#32⟩,
   ⟨"DEC3", 0xAC000000#32, 0xFC1FFFFF#32⟩, ⟨"SER13", 0xB0000000#32, 0xFFE0FFFF#32⟩, ⟨"DES13", 0xB4000000#32, 0xFC1FFFFF#32⟩]

/-- The opcode map of 30_encoding.md R95, in the table's order. -/
def opcodeRows : List OpcodeRow := opcodeRowsScalar ++ opcodeRowsPoly ++ opcodeRowsStream

/-- The word is the command of this row (30_encoding.md R95). -/
def OpcodeRow.covers (r : OpcodeRow) (w : Word) : Bool := w &&& r.mask == r.pattern

/-- The word's opcode is one of R95's (the first check of 40_command.md R122). -/
def legalOpcode (w : Word) : Bool := opcodeRows.any fun r => w >>> 26 == r.pattern >>> 26

/-- The word is a legal command: some row of 30_encoding.md R95 covers it. -/
def wellFormedWord (w : Word) : Bool := opcodeRows.any fun r => r.covers w

end Sys2Proof
end

