-- ==== Sys2Proof/Decode.lean ====
section
/-! DEFINITION. The decoder, total on all 2^32 words and rejecting by name (30_encoding.md R90 to R98), and the encoder
written from the same field layout. -/

namespace Sys2Proof

/-- Why a word is no command (30_encoding.md R96, R97). -/
inductive DecodeError where
  /-- OP is not an opcode of R95 (R96). -/
  | illegalOpcode
  /-- A legal OP with a 1 in a bit that its format fixes to 0 (R97). -/
  | reservedField
deriving DecidableEq, Repr

/-- The outcome of decoding: a command, or the reason why there is none. -/
inductive Decoded where
  | ok (i : Instr)
  | error (e : DecodeError)
deriving DecidableEq, Repr

/-- The field of `len` bits from bit `lo` up, as an unsigned integer (00_scope.md R9). -/
def field (w : Word) (lo len : Nat) : Nat := w.toNat / 2 ^ lo % 2 ^ len

/-- A five-bit register field (30_encoding.md R93, R94). -/
def regField (w : Word) (lo : Nat) : Reg := ⟨w.toNat / 2 ^ lo % 32, Nat.mod_lt _ (by decide)⟩

/-- OP, bits 31:26 (30_encoding.md R91). -/
def opField (w : Word) : Nat := field w 26 6

/-- D, bits 25:21. -/
def dField (w : Word) : Reg := regField w 21

/-- A, bits 20:16. -/
def aField (w : Word) : Reg := regField w 16

/-- B, bits 15:11. -/
def bField (w : Word) : Reg := regField w 11

/-- Z, bits 10:0. -/
def zField (w : Word) : Nat := field w 0 11

/-- The command, if the bits its format fixes to 0 are 0 (30_encoding.md R97). -/
def guarded (zero : Bool) (i : Instr) : Decoded := if zero then .ok i else .error .reservedField

/-- Format N fixes D, A, B and Z to 0 (30_encoding.md R92). -/
def zeroN (w : Word) : Bool := dField w == 0 && aField w == 0 && bField w == 0 && zField w == 0

/-- Format RRR fixes Z to 0. -/
def zeroRRR (w : Word) : Bool := zField w == 0

/-- Format RR fixes B and Z to 0. -/
def zeroRR (w : Word) : Bool := bField w == 0 && zField w == 0

/-- Format RD fixes A, B and Z to 0. -/
def zeroRD (w : Word) : Bool := aField w == 0 && bField w == 0 && zField w == 0

/-- Format RA fixes D, B and Z to 0. -/
def zeroRA (w : Word) : Bool := dField w == 0 && bField w == 0 && zField w == 0

/-- Decode and check (40_command.md R122, 60_exceptions.md R274): the opcode first, then the fixed-zero bits. -/
def decode (w : Word) : Decoded :=
  match opField w with
  | 0x00 => guarded (zeroN w) .nop
  | 0x01 => guarded (zeroRRR w) (.sadd (dField w) (aField w) (bField w))
  | 0x02 => guarded (zeroRRR w) (.ssub (dField w) (aField w) (bField w))
  | 0x03 => guarded (zeroRRR w) (.smul (dField w) (aField w) (bField w))
  | 0x04 => guarded (zeroRR w) (.sinv (dField w) (aField w))
  | 0x10 => guarded (zeroRD w) (.pzero (dField w))
  | 0x11 => guarded (zeroRRR w) (.padd (dField w) (aField w) (bField w))
  | 0x12 => guarded (zeroRRR w) (.psub (dField w) (aField w) (bField w))
  | 0x13 => guarded (zeroRRR w) (.pmul (dField w) (aField w) (bField w))
  | 0x14 => guarded (zeroRRR w) (.pmac (dField w) (aField w) (bField w))
  | 0x18 => guarded (zeroRR w) (.ntt (dField w) (aField w))
  | 0x19 => guarded (zeroRR w) (.intt (dField w) (aField w))
  | 0x20 => guarded (zeroRD w) (.sampu (dField w))
  | 0x21 => guarded (zeroRD w) (.cbd1 (dField w))
  | 0x22 => guarded (zeroRD w) (.cbd2 (dField w))
  | 0x28 => guarded (zeroRA w) (.cmp10 (aField w))
  | 0x29 => guarded (zeroRD w) (.dec10 (dField w))
  | 0x2A => guarded (zeroRA w) (.cmp3 (aField w))
  | 0x2B => guarded (zeroRD w) (.dec3 (dField w))
  | 0x2C => guarded (zeroRA w) (.ser13 (aField w))
  | 0x2D => guarded (zeroRD w) (.des13 (dField w))
  | _ => .error .illegalOpcode

/-- The command a decoding names, if it names one. -/
def Decoded.command? : Decoded → Option Instr
  | .ok i => some i
  | .error _ => none

/-- The 32-bit command word whose bits the opcode table numbers, every bit above `nbits` zero. -/
def tableWord (nbits w : Nat) : Word := BitVec.ofNat 32 (w % 2 ^ nbits)

/-- The decoder on an instruction whose bits are `w`, numbered as spec/opcode_table.json numbers them. A command is one
word, so it is handed to the decoder whole (30_encoding.md R90). -/
def decodeTableWord (nbits w : Nat) : Option Instr := (decode (tableWord nbits w)).command?

/-- `w = OP<<26 | D<<21 | A<<16 | B<<11`, Z = 0 (30_encoding.md R91). -/
def encodeFields (op : Nat) (d a b : Reg) : Word :=
  BitVec.ofNat 32 (op * 2 ^ 26 + d.val * 2 ^ 21 + a.val * 2 ^ 16 + b.val * 2 ^ 11)

/-- The command's word (30_encoding.md R91, R92, R95); a field that the format does not use is 0. -/
def encode : Instr → Word
  | .nop => encodeFields 0x00 0 0 0
  | .sadd d a b => encodeFields 0x01 d a b
  | .ssub d a b => encodeFields 0x02 d a b
  | .smul d a b => encodeFields 0x03 d a b
  | .sinv d a => encodeFields 0x04 d a 0
  | .pzero d => encodeFields 0x10 d 0 0
  | .padd d a b => encodeFields 0x11 d a b
  | .psub d a b => encodeFields 0x12 d a b
  | .pmul d a b => encodeFields 0x13 d a b
  | .pmac d a b => encodeFields 0x14 d a b
  | .ntt d a => encodeFields 0x18 d a 0
  | .intt d a => encodeFields 0x19 d a 0
  | .sampu d => encodeFields 0x20 d 0 0
  | .cbd1 d => encodeFields 0x21 d 0 0
  | .cbd2 d => encodeFields 0x22 d 0 0
  | .cmp10 a => encodeFields 0x28 0 a 0
  | .dec10 d => encodeFields 0x29 d 0 0
  | .cmp3 a => encodeFields 0x2A 0 a 0
  | .dec3 d => encodeFields 0x2B d 0 0
  | .ser13 a => encodeFields 0x2C 0 a 0
  | .des13 d => encodeFields 0x2D d 0 0

/-- The mnemonic of spec/opcode_table.json. -/
def mnemonicOf : Instr → String
  | .nop => "NOP"
  | .sadd _ _ _ => "SADD"
  | .ssub _ _ _ => "SSUB"
  | .smul _ _ _ => "SMUL"
  | .sinv _ _ => "SINV"
  | .pzero _ => "PZERO"
  | .padd _ _ _ => "PADD"
  | .psub _ _ _ => "PSUB"
  | .pmul _ _ _ => "PMUL"
  | .pmac _ _ _ => "PMAC"
  | .ntt _ _ => "NTT"
  | .intt _ _ => "INTT"
  | .sampu _ => "SAMPU"
  | .cbd1 _ => "CBD1"
  | .cbd2 _ => "CBD2"
  | .cmp10 _ => "CMP10"
  | .dec10 _ => "DEC10"
  | .cmp3 _ => "CMP3"
  | .dec3 _ => "DEC3"
  | .ser13 _ => "SER13"
  | .des13 _ => "DES13"

end Sys2Proof
end

