-- ==== Sys2Proof/Config.lean ====
section
/-! DEFINITION. What the implementation fixes (the parameters of 00_scope.md R6 and R7), and the free values: constants without
a body, so that no proof can see what they are. -/

namespace Sys2Proof

/-- The prime modulus Q (00_scope.md R6). -/
abbrev Config.q : Nat := 7681

/-- SFIFO_BYTES, the stream FIFO's capacity in bytes (00_scope.md R7). -/
abbrev Config.fifoBytes : Nat := 64

/-- BUF_BYTES, the byte buffer's size (00_scope.md R7). -/
abbrev Config.bufBytes : Nat := 128

/-- NINV = 64^-1 mod 7681 (00_scope.md R7, 43_ntt.md R180). -/
abbrev Config.ninv : Nat := 7561

/-- PSI, the primitive 128th root of unity of the transforms (00_scope.md R7, 43_ntt.md R180). -/
abbrev Config.psi : Nat := 202

/-- The ID register's value (10_state.md R31). -/
abbrev Config.idValue : Word := 0x1E014001#32

/-- FREE VALUE. What a host read of the scalar, polynomial or buffer window returns while BUSY = 1 (20_memory.md R70,
93_implementation_defined.md S3): a fresh 32-bit draw a read. The argument is the draw's number. Log entry 4. -/
opaque Config.busyReadData : Nat → Word

/-- FREE VALUE. What a read finds in a scalar register that an abort left unwritten (70_reset_and_hazards.md R302,
10_state.md R39: some 13-bit value, not known to be canonical or stable). The arguments are the draw's number and the
register. Log entry 3. -/
opaque Config.lostScalar : Nat → Nat → Coef

/-- FREE VALUE. What a read finds in a coefficient that an abort left unwritten (70_reset_and_hazards.md R302). The
arguments are the draw's number, the register and the lane. Log entry 3. -/
opaque Config.lostCoef : Nat → Nat → Nat → Coef

/-- FREE VALUE. What a read finds in a byte of BUF that an abort left unwritten (70_reset_and_hazards.md R302). The
arguments are the draw's number and the byte's index. Log entry 3. -/
opaque Config.lostByte : Nat → Nat → Byte

end Sys2Proof
end

