-- ==== Sys2Proof/Machine/State.lean ====
section
/-! DEFINITION. The machine's state as plain data, the reasons a step can stop, and the state after reset. -/

namespace Sys2Proof.Machine

/-- Where a cell of S, PR or BUF got its contents (10_state.md R39). -/
inductive Origin where
  /-- Nothing has written the cell since the last hardware reset (10_state.md R40); it holds the value the model names. -/
  | atReset
  /-- A host write or a command wrote the cell. -/
  | written
  /-- An aborted command could have written the cell (70_reset_and_hazards.md R302); a read of it finds a free value. -/
  | lost
deriving DecidableEq, Repr

/-- A scalar register or a coefficient cell: 13 bits and their origin (10_state.md R21, R22, R39). -/
structure Cell where
  val : Coef
  origin : Origin
deriving DecidableEq, Repr

/-- A cell that a host write or a command has just written. -/
def Cell.ofWrite (v : Coef) : Cell := ⟨v, .written⟩

/-- A cell after a hardware reset (10_state.md R40; DESIGN CHOICE 0, log entry 1, unsafe). -/
def Cell.atReset : Cell := ⟨0, .atReset⟩

/-- The bytes of BUF: index and byte, indexes strictly rising, no entry equal to what an unlisted index reads as. -/
abbrev Memory := List Host.Cell

/-- What happens next: one step of the host or of the engine, which interleave in any order (10_state.md R20,
20_memory.md R69), or the reset input (70_reset_and_hazards.md R300). -/
inductive Event where
  /-- The engine takes a step, if it has one to take. -/
  | engine
  /-- HostRead of the word at this word address (20_memory.md R60, R63). -/
  | hostRead (waddr : BitVec 12)
  /-- HostWrite of this word at this word address (20_memory.md R60, R63). -/
  | hostWrite (waddr : BitVec 12) (w : Word)
  /-- A byte, halfword or doubleword access of the host, which does not exist on the port (20_memory.md R63). -/
  | otherWidth
  /-- The reset input is asserted and released (70_reset_and_hazards.md R300). -/
  | hardReset
deriving DecidableEq, Repr

/-- The state of the CORE (10_state.md R20), under the spec's names. The last four fields are not registers of the CORE:
`decoded` is implied by 40_command.md R125, `rdata` is the port's read datum (20_memory.md R60), and `script` and `draws`
are the model's own (log entries 4 and 5). -/
structure State where
  /-- S[0..31] (10_state.md R21). -/
  S : Vector Cell 32
  /-- PR[0..31][0..63] (10_state.md R22). -/
  PR : Vector (Vector Cell 64) 32
  /-- BUF[0..127] (10_state.md R26). -/
  BUF : Memory
  /-- The origin of each byte of BUF (10_state.md R39). -/
  bufOrigin : Vector Origin 128
  /-- The stream FIFO, head first (10_state.md R36). -/
  FIFO : List Byte
  /-- STATUS bit 0 (10_state.md R28). -/
  busy : Bool
  /-- STATUS bit 1. -/
  done : Bool
  /-- STATUS bit 2. -/
  err : Bool
  /-- STATUS bit 4. -/
  werr : Bool
  /-- STATUS bit 5. -/
  sovf : Bool
  /-- CAUSE.CODE (10_state.md R29). -/
  cause : BitVec 4
  /-- LASTCMD (10_state.md R30). -/
  lastCmd : Word
  /-- INTEN.DONE_IE (10_state.md R33). -/
  doneIE : Bool
  /-- INTEN.ERR_IE (10_state.md R33). -/
  errIE : Bool
  /-- CUR, the command word in flight, valid while BUSY = 1 (10_state.md R37). -/
  cur : Word
  /-- ACC, SAMPU's bit accumulator (10_state.md R37). -/
  acc : BitVec 20
  /-- NB, the valid bits in ACC (10_state.md R37). -/
  nb : Nat
  /-- IDX, the coefficients produced so far (10_state.md R37). -/
  idx : Nat
  /-- The stream command in flight has passed its decode-and-check step (40_command.md R125). Log entry 6. -/
  decoded : Bool
  /-- What the last HostRead returned (20_memory.md R60). Log entry 8. -/
  rdata : Word
  /-- The events to come, the next one first; past its end only the engine moves. Log entry 5. -/
  script : List Event
  /-- The number of the coming draw of a free value. Log entry 4. -/
  draws : Nat
deriving DecidableEq, Repr

/-- Why the machine stops. The CORE itself never stops (60_exceptions.md R270). -/
inductive Fault where
  /-- Raised by an engine step of SAMPU, CBD1 or CBD2 that would write a lane past 63, which does not exist
  (10_state.md R22). SAFE: IDX stays in R37's range in every state a run reaches, so no run stops here. Log entry 9. -/
  | noSuchLane
deriving DecidableEq, Repr

/-- Why the machine declines a step. -/
inductive Refusal where
  /-- Raised by the dispatch alone, for a command without a meaning; no arm uses it. SAFE. -/
  | notModelled (mnemonic : String)
  /-- Raised by a host access that is not one word: "A model offers HostRead and HostWrite at word granularity only and
  refuses any other width" (20_memory.md R63). SAFE: the port cannot express one. -/
  | accessWidth
deriving DecidableEq, Repr

/-- The machine right after a hardware reset (10_state.md R40, 70_reset_and_hazards.md R300). The values of S, PR and BUF
are the model's (log entries 1 and 2), as are `rdata`, `script` and `draws` (log entries 8, 5, 4). -/
def State.reset : State where
  S := Vector.replicate 32 Cell.atReset
  PR := Vector.replicate 32 (Vector.replicate 64 Cell.atReset)
  BUF := []
  bufOrigin := Vector.replicate 128 .atReset
  FIFO := []
  busy := false
  done := false
  err := false
  werr := false
  sovf := false
  cause := 0
  lastCmd := 0
  doneIE := false
  errIE := false
  cur := 0
  acc := 0
  nb := 0
  idx := 0
  decoded := false
  rdata := 0
  script := []
  draws := 0

end Sys2Proof.Machine
end

