-- ==== Sys2Proof/Machine/Ops.lean ====
section
/-! DEFINITION. The named operations over the register files, BUF, FIFO and the command protocol: every reader and writer
of the state goes through them. Among them the command error, the CORE's one form of exception, and the resets. -/

namespace Sys2Proof.Machine

/-! ### BUF as a memory of bytes -/

/-- What an unlisted index of BUF reads as (DESIGN CHOICE, log entry 2, unsafe). -/
def Memory.unlisted : Byte := 0

/-- One byte of BUF's contents. -/
def Memory.read : Memory → Nat → Byte
  | [], _ => Memory.unlisted
  | c :: m, k => if c.1 = k then c.2 else Memory.read m k

/-- A byte's entry, unless it is what an unlisted index reads as. -/
def Memory.entry (k : Nat) (v : Byte) (m : Memory) : Memory := if v = Memory.unlisted then m else (k, v) :: m

/-- BUF's contents with byte `k` set, in canonical form. -/
def Memory.write : Memory → Nat → Byte → Memory
  | [], k, v => Memory.entry k v []
  | c :: m, k, v =>
    if k < c.1 then Memory.entry k v (c :: m)
    else if k = c.1 then Memory.entry k v m
    else c :: Memory.write m k v

/-- BUF's contents with the bytes `vs` stored from `k` up. -/
def Memory.store : Memory → Nat → List Byte → Memory
  | m, _, [] => m
  | m, k, v :: vs => Memory.store (Memory.write m k v) (k + 1) vs

/-- The canonical form: indexes strictly rising, all of them BUF's, and no entry equal to what an unlisted index reads as. -/
abbrev Memory.wf (m : Memory) : Prop :=
  m.Pairwise (fun x y => x.1 < y.1) ∧ ∀ c ∈ m, c.1 < Config.bufBytes ∧ c.2 ≠ Memory.unlisted

/-! ### The register files and BUF -/

/-- S[r] as a command or the host finds it: its value, or a free value where an abort left it unwritten (10_state.md R39,
70_reset_and_hazards.md R302). -/
def State.scalar (s : State) (r : Reg) : Coef :=
  match (s.S.get r).origin with
  | .lost => Config.lostScalar s.draws r.val
  | _ => (s.S.get r).val

/-- PR[p][j] as a command or the host finds it. -/
def State.coef (s : State) (p : Reg) (j : Lane) : Coef :=
  match ((s.PR.get p).get j).origin with
  | .lost => Config.lostCoef s.draws p.val j.val
  | _ => ((s.PR.get p).get j).val

/-- BUF[k] as a command or the host finds it. -/
def State.byte (s : State) (k : Nat) : Byte :=
  match s.bufOrigin[k]? with
  | some .lost => Config.lostByte s.draws k
  | _ => Memory.read s.BUF k

/-- S[r] <- v. -/
def State.setScalar (s : State) (r : Reg) (v : Coef) : State := { s with S := s.S.set r.val (Cell.ofWrite v) r.isLt }

/-- PR[p][j] <- v. -/
def State.setCoef (s : State) (p : Reg) (j : Nat) (v : Coef) : State :=
  { s with PR := s.PR.set p.val ((s.PR.get p).setIfInBounds j (Cell.ofWrite v)) p.isLt }

/-- PR[p] <- v, all 64 lanes. -/
def State.setPoly (s : State) (p : Reg) (v : Poly) : State :=
  { s with PR := s.PR.set p.val (Vector.ofFn fun j => Cell.ofWrite (v.get j)) p.isLt }

/-- The origins of BUF with bytes `k` to `k + n - 1` marked. (Irreducible so that a failing unification does not unfold 128
entries; `markBytes_getElem?` says what it does.) -/
@[irreducible] def markBytes (o : Vector Origin 128) (k n : Nat) (mark : Origin) : Vector Origin 128 :=
  Vector.ofFn fun i => if k ≤ i.val ∧ i.val < k + n then mark else o.get i

/-- BUF[k..] <- bs, every other byte unchanged (45_codec.md R230). -/
def State.setBytes (s : State) (k : Nat) (bs : List Byte) : State :=
  { s with BUF := Memory.store s.BUF k bs, bufOrigin := markBytes s.bufOrigin k bs.length .written }

/-! ### Issue, completion and command errors -/

/-- An accepted issue of the command word `w` (40_command.md R120); no step of it has been taken. -/
def State.issue (s : State) (w : Word) : State :=
  { s with lastCmd := w, cur := w, done := false, busy := true, acc := 0, nb := 0, idx := 0, decoded := false }

/-- Complete(): normal completion (40_command.md R124); no command is in flight after it. -/
def State.complete (s : State) : State := { s with busy := false, done := true, decoded := false }

/-- The cause codes a command error records (60_exceptions.md R271). -/
inductive CmdError where
  /-- Code 1. -/
  | illegalOpcode
  /-- Code 2. -/
  | reservedField
  /-- Code 3, SINV of 0 only. -/
  | invZero
  /-- Code 4, DES13 only. -/
  | range
deriving DecidableEq, Repr

/-- CAUSE.CODE of a command error (60_exceptions.md R271). -/
def errorCode : CmdError → BitVec 4
  | .illegalOpcode => 1
  | .reservedField => 2
  | .invZero => 3
  | .range => 4

/-- The command error of a decoding error (40_command.md R122). -/
def decodeErrorCause : DecodeError → CmdError
  | .illegalOpcode => .illegalOpcode
  | .reservedField => .reservedField

/-- `raise CmdError(code)`: TAKING AN EXCEPTION on this hardware (60_exceptions.md R273). It writes CAUSE and STATUS and
nothing else the CORE holds; LASTCMD keeps the failed word. The return from it is the host's write of 1 to STATUS.ERR
(R276), `State.clearFlags` in Flags.lean. -/
def State.cmdError (s : State) (e : CmdError) : State :=
  { s with cause := errorCode e, err := true, busy := false, done := true, decoded := false }

/-! ### Reset and abort -/

/-- A cell that an aborted command could have written (70_reset_and_hazards.md R302). -/
def Cell.lose (c : Cell) : Cell := { c with origin := .lost }

/-- S[r] becomes unwritten by an abort. -/
def State.loseScalar (s : State) (r : Reg) : State := { s with S := s.S.set r.val (Cell.lose (s.S.get r)) r.isLt }

/-- PR[p] becomes unwritten by an abort, all of it (10_state.md R39). -/
def State.losePoly (s : State) (p : Reg) : State :=
  { s with PR := s.PR.set p.val ((Vector.ofFn fun j => Cell.lose ((s.PR.get p).get j))) p.isLt }

/-- BUF[0..n-1] becomes unwritten by an abort. -/
def State.loseBytes (s : State) (n : Nat) : State := { s with bufOrigin := markBytes s.bufOrigin 0 n .lost }

/-- The cells a command could write become unwritten (70_reset_and_hazards.md R302, 45_codec.md R230). -/
def State.loseDestination (s : State) : Instr → State
  | .nop => s
  | .sadd d _ _ => s.loseScalar d
  | .ssub d _ _ => s.loseScalar d
  | .smul d _ _ => s.loseScalar d
  | .sinv d _ => s.loseScalar d
  | .pzero d => s.losePoly d
  | .padd d _ _ => s.losePoly d
  | .psub d _ _ => s.losePoly d
  | .pmul d _ _ => s.losePoly d
  | .pmac d _ _ => s.losePoly d
  | .ntt d _ => s.losePoly d
  | .intt d _ => s.losePoly d
  | .sampu d => s.losePoly d
  | .cbd1 d => s.losePoly d
  | .cbd2 d => s.losePoly d
  | .cmp10 _ => s.loseBytes 80
  | .dec10 d => s.losePoly d
  | .cmp3 _ => s.loseBytes 24
  | .dec3 d => s.losePoly d
  | .ser13 _ => s.loseBytes 104
  | .des13 d => s.losePoly d

/-- The abort of the command in flight, if there is one (70_reset_and_hazards.md R302). A word that is no command could
write no cell. -/
def State.abort (s : State) : State :=
  if s.busy then
    match decode s.cur with
    | .ok i => s.loseDestination i
    | .error _ => s
  else s

/-- Every item of 10_state.md R40 at its reset value, but S, PR and BUF. -/
def State.clearControl (s : State) : State :=
  { s with
    FIFO := [], busy := false, done := false, err := false, werr := false, sovf := false, cause := 0, lastCmd := 0,
    doneIE := false, errIE := false, cur := 0, acc := 0, nb := 0, idx := 0, decoded := false }

/-- CTRL.SRST (70_reset_and_hazards.md R301, R302). -/
def State.softReset (s : State) : State := s.abort.clearControl

/-- The hardware reset input (70_reset_and_hazards.md R300): the machine of R40. What the CORE does not hold stays: the
events to come, the draws made and the datum the host has read. Log entry 7. -/
def State.hardReset (s : State) : State :=
  { State.reset with rdata := s.rdata, script := s.script, draws := s.draws }

/-! ### The schedule -/

/-- The next event; past the end of the schedule only the engine moves (20_memory.md R69, 40_command.md R128). -/
def State.nextEvent (s : State) : Event :=
  match s.script with
  | [] => .engine
  | e :: _ => e

/-- The state in which the next event happens: the schedule has moved on, and so has the counter of draws. -/
def State.advance (s : State) : State := { s with script := s.script.tail, draws := s.draws + 1 }

end Sys2Proof.Machine
end

