-- ==== Sys2Proof/Machine/Modular.lean ====
section
/-! DEFINITION. Arithmetic in the integers modulo q = 7681 (41_scalar.md R140): the exact value is computed in the integers
and narrowed once, by the floor remainder of 00_scope.md R9. -/

namespace Sys2Proof.Machine

/-- `x mod q`, in [0, q) for every integer x, negative ones included (00_scope.md R9, 41_scalar.md R140). -/
def reduce (x : Int) : Coef := BitVec.ofNat 13 (x % 7681).toNat

/-- `(a + b) mod q` (41_scalar.md R141). -/
def addMod (a b : Coef) : Coef := reduce ((a.toNat : Int) + b.toNat)

/-- `(a - b) mod q` (41_scalar.md R142). -/
def subMod (a b : Coef) : Coef := reduce ((a.toNat : Int) - b.toNat)

/-- `(a * b) mod q`, the product exact (41_scalar.md R143). -/
def mulMod (a b : Coef) : Coef := reduce ((a.toNat : Int) * b.toNat)

/-- `(r + a * b) mod q` (42_poly_arith.md R165). -/
def macMod (r a b : Coef) : Coef := reduce ((r.toNat : Int) + (a.toNat : Int) * b.toNat)

/-- The exponent q - 2 of Fermat's inverse (41_scalar.md R144). -/
def fermatExponent : Nat := Config.q - 2

/-- `a^(q-2) mod q` (41_scalar.md R144). -/
def invMod (a : Coef) : Coef := reduce ((a.toNat ^ fermatExponent : Nat) : Int)

end Sys2Proof.Machine
end

