-- ==== Sys2Proof/Machine/Operands.lean ====
section
/-! DEFINITION. The operand forms: scalar and polynomial registers named by D, A and B (30_encoding.md R93), and BUF, which
the codec commands use implicitly (45_codec.md R230). A source is read as one snapshot before any destination is written
(40_command.md R126): a meaning below computes its result from the state before it and writes it into that state. -/

namespace Sys2Proof.Machine

/-- A lane-wise polynomial: lane j is `f j` (42_poly_arith.md R160). (Irreducible so that a failing unification does not unfold
64 lanes; `lanes_get` says what it does.) -/
@[irreducible] def lanes (f : Lane → Coef) : Poly := Vector.ofFn f

/-- The snapshot of PR[p] (40_command.md R126). -/
def State.poly (s : State) (p : Reg) : Poly := lanes fun j => s.coef p j

/-- The snapshot of BUF[0..n-1]. -/
def State.bytes (s : State) (n : Nat) : List Byte := (List.range n).map fun k => s.byte k

/-- A scalar command of two sources: the result of `f` into S[D], then completion (41_scalar.md R141 to R143). -/
def scalarResult (f : Coef → Coef → Coef) (d a b : Reg) (s : State) : State :=
  (s.setScalar d (f (s.scalar a) (s.scalar b))).complete

/-- A polynomial command: the polynomial `v` into PR[D], then completion. -/
def polyResult (d : Reg) (v : Poly) (s : State) : State := (s.setPoly d v).complete

/-- A packing command: the bytes `bs` into BUF from byte 0 up, then completion (45_codec.md R230). -/
def bytesResult (bs : List Byte) (s : State) : State := (s.setBytes 0 bs).complete

/-- The number a bit string holds, its fields of `d` bits each, the first one lowest: `sum_i v[i] << (d*i)`
(20_memory.md R77, 45_codec.md R233). -/
def joinFields (d : Nat) : List Nat → Nat
  | [] => 0
  | x :: xs => x + 2 ^ d * joinFields d xs

/-- `pack_d(v)`, 8·d bytes (45_codec.md R233). -/
def pack (d : Nat) (v : List Nat) : List Byte :=
  (List.range (8 * d)).map fun k => BitVec.ofNat 8 (joinFields d v / 2 ^ (8 * k))

/-- `unpack_d(bs)[i]` (45_codec.md R233). -/
def unpackAt (d : Nat) (bs : List Byte) (i : Nat) : Nat :=
  joinFields 8 (bs.map BitVec.toNat) / 2 ^ (d * i) % 2 ^ d

end Sys2Proof.Machine
end

