-- ==== Sys2Proof/Machine/Codec.lean ====
section
/-! DEFINITION. Compression and serialization: CMP10, DEC10, CMP3, DEC3, SER13 and DES13 (45_codec.md). -/

namespace Sys2Proof.Machine

/-- `compress_d(x)` (45_codec.md R231). -/
def compress (d x : Nat) : Nat := (2 ^ d * x + 3840) / Config.q % 2 ^ d

/-- `decompress_d(y)` (45_codec.md R232). -/
def decompress (d y : Nat) : Nat := (Config.q * y + 2 ^ (d - 1)) / 2 ^ d

/-- The bytes of a polynomial compressed to d bits a coefficient (45_codec.md R234, R236). -/
def compressPoly (d : Nat) (a : Poly) : List Byte := pack d (a.toList.map fun x => compress d x.toNat)

/-- The polynomial of a byte string compressed to d bits a coefficient (45_codec.md R235, R237). -/
def decompressPoly (d : Nat) (bs : List Byte) : Poly :=
  lanes fun j => BitVec.ofNat 13 (decompress d (unpackAt d bs j.val))

/-- The bytes of SER13 (45_codec.md R238). -/
def serializePoly (a : Poly) : List Byte := pack 13 (a.toList.map BitVec.toNat)

/-- The polynomial of DES13 (45_codec.md R239). -/
def deserializePoly (bs : List Byte) : Poly := lanes fun j => BitVec.ofNat 13 (unpackAt 13 bs j.val)

/-- Some unpacked 13-bit field is q or more (45_codec.md R239). -/
def outOfRange (bs : List Byte) : Bool := (List.range 64).any fun j => Config.q ≤ unpackAt 13 bs j

/-- CMP10 (45_codec.md R234). -/
def execCmp10 (a : Reg) (s : State) : Host.Outcome State Fault Refusal :=
  .next (bytesResult (compressPoly 10 (s.poly a)) s)

/-- DEC10 (45_codec.md R235). -/
def execDec10 (d : Reg) (s : State) : Host.Outcome State Fault Refusal :=
  .next (polyResult d (decompressPoly 10 (s.bytes 80)) s)

/-- CMP3 (45_codec.md R236). -/
def execCmp3 (a : Reg) (s : State) : Host.Outcome State Fault Refusal :=
  .next (bytesResult (compressPoly 3 (s.poly a)) s)

/-- DEC3 (45_codec.md R237). -/
def execDec3 (d : Reg) (s : State) : Host.Outcome State Fault Refusal :=
  .next (polyResult d (decompressPoly 3 (s.bytes 24)) s)

/-- SER13 (45_codec.md R238). -/
def execSer13 (a : Reg) (s : State) : Host.Outcome State Fault Refusal := .next (bytesResult (serializePoly (s.poly a)) s)

/-- DES13 (45_codec.md R239): RANGE, with PR[D] unchanged, when a field is q or more. -/
def execDes13 (d : Reg) (s : State) : Host.Outcome State Fault Refusal :=
  if outOfRange (s.bytes 104) then .next (s.cmdError .range)
  else .next (polyResult d (deserializePoly (s.bytes 104)) s)

end Sys2Proof.Machine
end

