-- ==== Sys2Proof/Machine/Command.lean ====
section
/-! DEFINITION. The command interface's own command, NOP (40_command.md R127). -/

namespace Sys2Proof.Machine

/-- NOP (40_command.md R127): it completes, and that is all. -/
def execNop (s : State) : Host.Outcome State Fault Refusal := .next s.complete

end Sys2Proof.Machine
end

