-- ==== Sys2Proof/Machine/PolyArith.lean ====
section
/-! DEFINITION. The lane-wise polynomial commands PZERO, PADD, PSUB, PMUL and PMAC (42_poly_arith.md). -/

namespace Sys2Proof.Machine

/-- PADD's value (42_poly_arith.md R162). -/
def polyAdd (a b : Poly) : Poly := lanes fun j => addMod (a.get j) (b.get j)

/-- PSUB's value (42_poly_arith.md R163). -/
def polySub (a b : Poly) : Poly := lanes fun j => subMod (a.get j) (b.get j)

/-- PMUL's value (42_poly_arith.md R164). -/
def polyMul (a b : Poly) : Poly := lanes fun j => mulMod (a.get j) (b.get j)

/-- PMAC's value (42_poly_arith.md R165). -/
def polyMac (r a b : Poly) : Poly := lanes fun j => macMod (r.get j) (a.get j) (b.get j)

/-- The zero polynomial (42_poly_arith.md R161). -/
def polyZero : Poly := lanes fun _ => 0

/-- PZERO (42_poly_arith.md R161). -/
def execPzero (d : Reg) (s : State) : Host.Outcome State Fault Refusal := .next (polyResult d polyZero s)

/-- PADD (42_poly_arith.md R162). -/
def execPadd (d a b : Reg) (s : State) : Host.Outcome State Fault Refusal :=
  .next (polyResult d (polyAdd (s.poly a) (s.poly b)) s)

/-- PSUB (42_poly_arith.md R163). -/
def execPsub (d a b : Reg) (s : State) : Host.Outcome State Fault Refusal :=
  .next (polyResult d (polySub (s.poly a) (s.poly b)) s)

/-- PMUL (42_poly_arith.md R164). -/
def execPmul (d a b : Reg) (s : State) : Host.Outcome State Fault Refusal :=
  .next (polyResult d (polyMul (s.poly a) (s.poly b)) s)

/-- PMAC (42_poly_arith.md R165): PR[D] is a source too. -/
def execPmac (d a b : Reg) (s : State) : Host.Outcome State Fault Refusal :=
  .next (polyResult d (polyMac (s.poly d) (s.poly a) (s.poly b)) s)

end Sys2Proof.Machine
end

