-- ==== Sys2Proof/Machine/Sampler.lean ====
section
/-! DEFINITION. The stream commands SAMPU, CBD1 and CBD2 (44_samplers.md), one engine step at a time (40_command.md R125):
first decode and check, then one FIFO byte a step, with a hold while FIFO is empty (R201). -/

namespace Sys2Proof.Machine

/-- One engine step of a stream command in flight. Its first step is decode and check and pops nothing; each later step
pops one byte and hands it to `f`, which may write `n` lanes; while FIFO is empty the command holds (40_command.md R125,
44_samplers.md R200, R201). -/
def streamStep (n : Nat) (f : Byte → State → State) (s : State) : Host.Outcome State Fault Refusal :=
  if s.decoded then
    match s.FIFO with
    | [] => .next s
    | b :: rest => if s.idx + n ≤ 64 then .next (f b { s with FIFO := rest }) else .fault .noSuchLane
  else .next { s with decoded := true }

/-- ACC and NB after a byte has been added above the NB valid bits (44_samplers.md R202). -/
def State.accumulate (s : State) (b : Byte) : State :=
  { s with acc := s.acc ||| (b.zeroExtend 20 <<< s.nb), nb := s.nb + 8 }

/-- The next 13-bit chunk leaves ACC (44_samplers.md R202). -/
def State.dropChunk (s : State) : State := { s with acc := s.acc >>> 13, nb := s.nb - 13 }

/-- The chunk `c` is accepted exactly when it is below q (44_samplers.md R202). -/
def State.offerChunk (d : Reg) (c : Coef) (s : State) : State :=
  if c.toNat < Config.q then { s.setCoef d s.idx c with idx := s.idx + 1 } else s

/-- The chunk of SAMPU's byte step, if ACC holds one (44_samplers.md R202). -/
def State.takeChunk (d : Reg) (s : State) : State :=
  if 13 ≤ s.nb then s.dropChunk.offerChunk d (s.acc.setWidth 13) else s

/-- SAMPU's end of a byte step: at the 64th coefficient the rest of the last byte is discarded (44_samplers.md R202). -/
def State.finishSampu (s : State) : State := if s.idx = 64 then { s with acc := 0, nb := 0 }.complete else s

/-- SAMPU's byte step (44_samplers.md R202). -/
def sampuByte (d : Reg) (b : Byte) (s : State) : State := ((s.accumulate b).takeChunk d).finishSampu

/-- Nibble h of a byte, the low one first (44_samplers.md R204). -/
def nibble (b : Byte) (h : Nat) : Nat := b.toNat / 2 ^ (4 * h) % 16

/-- Bit i of a nibble, as an integer. -/
def nibbleBit (n i : Nat) : Int := ((n / 2 ^ i % 2 : Nat) : Int)

/-- `n[0] - n[1]` mod q (44_samplers.md R204). -/
def cbd1Value (n : Nat) : Coef := reduce (nibbleBit n 0 - nibbleBit n 1)

/-- `(n[0] + n[1]) - (n[2] + n[3])` mod q (44_samplers.md R205). -/
def cbd2Value (n : Nat) : Coef := reduce ((nibbleBit n 0 + nibbleBit n 1) - (nibbleBit n 2 + nibbleBit n 3))

/-- A byte step of CBD1 and CBD2: the byte's two nibbles give lanes IDX and IDX + 1 (44_samplers.md R204, R205). -/
def cbdByte (value : Nat → Coef) (d : Reg) (b : Byte) (s : State) : State :=
  let t := (s.setCoef d s.idx (value (nibble b 0))).setCoef d (s.idx + 1) (value (nibble b 1))
  if s.idx + 2 = 64 then { t with idx := s.idx + 2 }.complete else { t with idx := s.idx + 2 }

/-- SAMPU (44_samplers.md R202). -/
def execSampu (d : Reg) (s : State) : Host.Outcome State Fault Refusal := streamStep 1 (sampuByte d) s

/-- CBD1 (44_samplers.md R204). -/
def execCbd1 (d : Reg) (s : State) : Host.Outcome State Fault Refusal := streamStep 2 (cbdByte cbd1Value d) s

/-- CBD2 (44_samplers.md R205). -/
def execCbd2 (d : Reg) (s : State) : Host.Outcome State Fault Refusal := streamStep 2 (cbdByte cbd2Value d) s

end Sys2Proof.Machine
end

