-- ==== Sys2Proof/Machine/Scalar.lean ====
section
/-! DEFINITION. The scalar commands SADD, SSUB, SMUL and SINV (41_scalar.md). -/

namespace Sys2Proof.Machine

/-- SADD (41_scalar.md R141). -/
def execSadd (d a b : Reg) (s : State) : Host.Outcome State Fault Refusal := .next (scalarResult addMod d a b s)

/-- SSUB (41_scalar.md R142). -/
def execSsub (d a b : Reg) (s : State) : Host.Outcome State Fault Refusal := .next (scalarResult subMod d a b s)

/-- SMUL (41_scalar.md R143). -/
def execSmul (d a b : Reg) (s : State) : Host.Outcome State Fault Refusal := .next (scalarResult mulMod d a b s)

/-- SINV (41_scalar.md R144): INV_ZERO on 0, with no write to S[D]. -/
def execSinv (d a : Reg) (s : State) : Host.Outcome State Fault Refusal :=
  if s.scalar a = 0 then .next (s.cmdError .invZero)
  else .next (s.setScalar d (invMod (s.scalar a))).complete

end Sys2Proof.Machine
end

