-- ==== Sys2Proof/Machine/Transform.lean ====
section
/-! DEFINITION. NTT and INTT (43_ntt.md): the loops of R182 and R184 as they stand, with the twiddle index of a block in
closed form ("The layer with half-length len uses ZETAS[64/(2·len)] to ZETAS[64/len − 1]", R182). -/

namespace Sys2Proof.Machine

/-- Rows 0 to 24 of the twiddle table (43_ntt.md R181). -/
def zetasLow : List Nat :=
  [1, 3383, 5756, 1213, 5953, 7098, 527, 849, 2132, 97, 5235, 5300, 2784, 1366, 2138, 5033] ++
  [2399, 4681, 5887, 6569, 2268, 7006, 4589, 1286, 6803, 2273, 330, 2645, 4027, 4928, 5835, 7316]

/-- Rows 32 to 56 of the twiddle table (43_ntt.md R181). -/
def zetasHigh : List Nat :=
  [202, 7438, 2881, 6915, 4270, 5130, 6601, 2516, 528, 4232, 5173, 2941, 1655, 7097, 1740, 2774] ++
  [695, 799, 6300, 5806, 4957, 1908, 5258, 6299, 6988, 5967, 5212, 4301, 6949, 4607, 3477, 3080]

/-- ZETAS[k] (43_ntt.md R181). -/
def zeta (k : Nat) : Coef := BitVec.ofNat 13 ((zetasLow ++ zetasHigh).getD k 0)

/-- Lane j of a polynomial in a loop whose index is a number. -/
def laneAt (a : Poly) (j : Nat) : Coef := a.getD j 0

/-- A Cooley–Tukey butterfly on lanes j and j + len with twiddle z (43_ntt.md R182). -/
def forwardButterfly (z : Coef) (len : Nat) (a : Poly) (j : Nat) : Poly :=
  let t := mulMod z (laneAt a (j + len))
  let u := laneAt a j
  (a.setIfInBounds (j + len) (subMod u t)).setIfInBounds j (addMod u t)

/-- Block b of the forward layer of half-length len: start = 2·len·b, k = 64/(2·len) + b (43_ntt.md R182). -/
def forwardBlock (len : Nat) (a : Poly) (b : Nat) : Poly :=
  (List.range len).foldl (fun a j => forwardButterfly (zeta (64 / (2 * len) + b)) len a (2 * len * b + j)) a

/-- The forward layer of half-length len (43_ntt.md R182). -/
def forwardLayer (a : Poly) (len : Nat) : Poly := (List.range (64 / (2 * len))).foldl (forwardBlock len) a

/-- NTT's value: six layers (43_ntt.md R182). -/
def nttPoly (a : Poly) : Poly := [32, 16, 8, 4, 2, 1].foldl forwardLayer a

/-- A Gentleman–Sande butterfly on lanes j and j + len with twiddle z (43_ntt.md R184). -/
def inverseButterfly (z : Coef) (len : Nat) (a : Poly) (j : Nat) : Poly :=
  let t := laneAt a j
  let u := laneAt a (j + len)
  (a.setIfInBounds j (addMod t u)).setIfInBounds (j + len) (mulMod z (subMod t u))

/-- `(q - ZETAS[k]) mod q` (43_ntt.md R184). -/
def negZeta (k : Nat) : Coef := reduce (7681 - ((zeta k).toNat : Int))

/-- Block b of the inverse layer of half-length len: k = 64/len - 1 - b (43_ntt.md R184). -/
def inverseBlock (len : Nat) (a : Poly) (b : Nat) : Poly :=
  (List.range len).foldl (fun a j => inverseButterfly (negZeta (64 / len - 1 - b)) len a (2 * len * b + j)) a

/-- The inverse layer of half-length len (43_ntt.md R184). -/
def inverseLayer (a : Poly) (len : Nat) : Poly := (List.range (64 / (2 * len))).foldl (inverseBlock len) a

/-- The final scaling by NINV (43_ntt.md R184). -/
def scaleInverse (a : Poly) : Poly := lanes fun j => mulMod (a.get j) (BitVec.ofNat 13 Config.ninv)

/-- INTT's value: six layers and the scaling (43_ntt.md R184). -/
def inttPoly (a : Poly) : Poly := scaleInverse ([1, 2, 4, 8, 16, 32].foldl inverseLayer a)

/-- NTT (43_ntt.md R182). -/
def execNtt (d a : Reg) (s : State) : Host.Outcome State Fault Refusal := .next (polyResult d (nttPoly (s.poly a)) s)

/-- INTT (43_ntt.md R184). -/
def execIntt (d a : Reg) (s : State) : Host.Outcome State Fault Refusal := .next (polyResult d (inttPoly (s.poly a)) s)

end Sys2Proof.Machine
end

