-- ==== Sys2Proof/Machine/Dispatch.lean ====
section
/-! DEFINITION. One arm per command: an engine step of that command in flight (40_command.md R123, R125). -/

namespace Sys2Proof.Machine

def exec (i : Instr) (s : State) : Host.Outcome State Fault Refusal :=
  match i with
  | .nop => Sys2Proof.Machine.execNop s
  | .sadd d a b => Sys2Proof.Machine.execSadd d a b s
  | .ssub d a b => Sys2Proof.Machine.execSsub d a b s
  | .smul d a b => Sys2Proof.Machine.execSmul d a b s
  | .sinv d a => Sys2Proof.Machine.execSinv d a s
  | .pzero d => Sys2Proof.Machine.execPzero d s
  | .padd d a b => Sys2Proof.Machine.execPadd d a b s
  | .psub d a b => Sys2Proof.Machine.execPsub d a b s
  | .pmul d a b => Sys2Proof.Machine.execPmul d a b s
  | .pmac d a b => Sys2Proof.Machine.execPmac d a b s
  | .ntt d a => Sys2Proof.Machine.execNtt d a s
  | .intt d a => Sys2Proof.Machine.execIntt d a s
  | .sampu d => Sys2Proof.Machine.execSampu d s
  | .cbd1 d => Sys2Proof.Machine.execCbd1 d s
  | .cbd2 d => Sys2Proof.Machine.execCbd2 d s
  | .cmp10 a => Sys2Proof.Machine.execCmp10 a s
  | .dec10 d => Sys2Proof.Machine.execDec10 d s
  | .cmp3 a => Sys2Proof.Machine.execCmp3 a s
  | .dec3 d => Sys2Proof.Machine.execDec3 d s
  | .ser13 a => Sys2Proof.Machine.execSer13 a s
  | .des13 d => Sys2Proof.Machine.execDes13 d s

end Sys2Proof.Machine
end

