-- ==== Sys2Proof/Machine/Flags.lean ====
section
/-! DEFINITION. The STATUS, CAUSE and INTEN words, the derived flags and the interrupt output (10_state.md R28 to R41). No
command sets a flag for its arithmetic result (R41). -/

namespace Sys2Proof.Machine

/-- The bit of a word that a flag is. -/
def flagBit (b : Bool) (n : Nat) : Word := if b then BitVec.ofNat 32 (2 ^ n) else 0

/-- The command is a stream command (40_command.md R125). -/
def isStream : Instr → Bool
  | .sampu _ => true
  | .cbd1 _ => true
  | .cbd2 _ => true
  | _ => false

/-- CUR decodes to SAMPU, CBD1 or CBD2 without error. -/
def State.curIsStream (s : State) : Bool :=
  match decode s.cur with
  | .ok i => isStream i
  | .error _ => false

/-- STATUS.SWAIT (10_state.md R38). -/
def State.swait (s : State) : Bool := s.busy && s.curIsStream && s.FIFO.isEmpty

/-- STATUS.SCOUNT, the number of bytes in FIFO (10_state.md R28, R36). -/
def State.scount (s : State) : Nat := s.FIFO.length

/-- The word a read of STATUS returns (10_state.md R28). -/
def State.statusWord (s : State) : Word :=
  flagBit s.busy 0 ||| flagBit s.done 1 ||| flagBit s.err 2 ||| flagBit s.swait 3 ||| flagBit s.werr 4 |||
    flagBit s.sovf 5 ||| (BitVec.ofNat 7 s.scount).zeroExtend 32 <<< 8

/-- The word a read of CAUSE returns (10_state.md R29). -/
def State.causeWord (s : State) : Word := s.cause.zeroExtend 32

/-- The word a read of INTEN returns (10_state.md R33). -/
def State.intenWord (s : State) : Word := flagBit s.doneIE 0 ||| flagBit s.errIE 1

/-- The level-sensitive interrupt output (10_state.md R35, 60_exceptions.md R278). -/
def State.irq (s : State) : Bool := (s.done && s.doneIE) || (s.err && s.errIE)

/-- A write of `w` to STATUS clears the W1C bits that are 1 in `w`, and CAUSE with ERR (10_state.md R28, R29,
60_exceptions.md R276). -/
def State.clearFlags (s : State) (w : Word) : State :=
  { s with
    done := s.done && !w.getLsbD 1
    err := s.err && !w.getLsbD 2
    cause := if w.getLsbD 2 then 0 else s.cause
    werr := s.werr && !w.getLsbD 4
    sovf := s.sovf && !w.getLsbD 5 }

/-- A write of `w` to INTEN (10_state.md R33). -/
def State.setInten (s : State) (w : Word) : State := { s with doneIE := w.getLsbD 0, errIE := w.getLsbD 1 }

/-- A dropped host access (60_exceptions.md R272). -/
def State.setWerr (s : State) : State := { s with werr := true }

end Sys2Proof.Machine
end

