-- ==== Sys2Proof/Machine/Port.lean ====
section
/-! DEFINITION. The host port: the address map and what a HostRead and a HostWrite do (20_memory.md, 10_state.md R27 to R34,
40_command.md R120, R121). -/

namespace Sys2Proof.Machine

/-- What stands at a word address (20_memory.md R61). -/
inductive Location where
  | id
  | cmd
  | status
  | cause
  | ctrl
  | inten
  | streamIn
  | scalar (r : Reg)
  | buffer (k : Reg)
  | coef (p : Reg) (j : Lane)
  | reserved
deriving DecidableEq, Repr

/-- The address map (20_memory.md R61): the byte address is four times the word address (R60). -/
def locate (waddr : BitVec 12) : Location :=
  let a := 4 * waddr.toNat
  if a = 0x000 then .id
  else if a = 0x004 then .cmd
  else if a = 0x008 then .status
  else if a = 0x00C then .cause
  else if a = 0x010 then .ctrl
  else if a = 0x014 then .inten
  else if a = 0x018 then .streamIn
  else if 0x0100 ≤ a ∧ a ≤ 0x017F then .scalar (Fin.ofNat 32 ((a - 0x0100) / 4))
  else if 0x0200 ≤ a ∧ a ≤ 0x027F then .buffer (Fin.ofNat 32 ((a - 0x0200) / 4))
  else if 0x1000 ≤ a ∧ a ≤ 0x2FFF then
    .coef (Fin.ofNat 32 ((a - 0x1000) / 0x100)) (Fin.ofNat 64 ((a - 0x1000) % 0x100 / 4))
  else .reserved

/-- The little-endian word of four bytes (20_memory.md R62). -/
def wordOfBytes (b0 b1 b2 b3 : Byte) : Word :=
  b0.zeroExtend 32 ||| b1.zeroExtend 32 <<< 8 ||| b2.zeroExtend 32 <<< 16 ||| b3.zeroExtend 32 <<< 24

/-- The four bytes of a word, bits 7:0 first (20_memory.md R62, 10_state.md R34). -/
def bytesOfWord (w : Word) : List Byte :=
  [w.extractLsb' 0 8, w.extractLsb' 8 8, w.extractLsb' 16 8, w.extractLsb' 24 8]

/-- Word k of the buffer window (20_memory.md R66). -/
def State.bufferWord (s : State) (k : Reg) : Word :=
  wordOfBytes (s.byte (4 * k.val)) (s.byte (4 * k.val + 1)) (s.byte (4 * k.val + 2)) (s.byte (4 * k.val + 3))

/-- A data window read: `v` when BUSY = 0, a free draw when BUSY = 1 (20_memory.md R70). -/
def State.windowRead (s : State) (v : Word) : Word := if s.busy then Config.busyReadData s.draws else v

/-- The word a HostRead returns (20_memory.md R64 to R67, R70, 10_state.md R27). No read has a side effect (R68). -/
def State.readWord (s : State) (waddr : BitVec 12) : Word :=
  match locate waddr with
  | .id => Config.idValue
  | .cmd => s.lastCmd
  | .status => s.statusWord
  | .cause => s.causeWord
  | .ctrl => 0
  | .inten => s.intenWord
  | .streamIn => 0
  | .scalar r => s.windowRead ((s.scalar r).zeroExtend 32)
  | .buffer k => s.windowRead (s.bufferWord k)
  | .coef p j => s.windowRead ((s.coef p j).zeroExtend 32)
  | .reserved => 0

/-- HostRead: the port's read datum is all that a read changes (20_memory.md R60, R68). -/
def State.hostRead (s : State) (waddr : BitVec 12) : State := { s with rdata := s.readWord waddr }

/-- A write to CMD: an issue, or dropped while busy (40_command.md R120, R121). -/
def State.writeCmd (s : State) (w : Word) : State := if s.busy then s.setWerr else s.issue w

/-- SFLUSH: FIFO is emptied when BUSY = 0, the request is dropped when BUSY = 1 (10_state.md R32). -/
def State.flush (s : State) : State := if s.busy then s.setWerr else { s with FIFO := [] }

/-- A write to CTRL: SRST outranks SFLUSH (10_state.md R32). -/
def State.writeCtrl (s : State) (w : Word) : State :=
  if w.getLsbD 0 then s.softReset else if w.getLsbD 1 then s.flush else s

/-- A write to STREAM_IN: four bytes at the tail, or dropped whole (10_state.md R34). -/
def State.pushStream (s : State) (w : Word) : State :=
  if s.FIFO.length ≤ Config.fifoBytes - 4 then { s with FIFO := s.FIFO ++ bytesOfWord w } else { s with sovf := true }

/-- A write to the scalar window (20_memory.md R64, R70). -/
def State.writeScalarWindow (s : State) (r : Reg) (w : Word) : State :=
  if s.busy then s.setWerr else if w.toNat < Config.q then s.setScalar r (w.setWidth 13) else s.setWerr

/-- A write to the polynomial window (20_memory.md R65, R70). -/
def State.writeCoefWindow (s : State) (p : Reg) (j : Lane) (w : Word) : State :=
  if s.busy then s.setWerr else if w.toNat < Config.q then s.setCoef p j.val (w.setWidth 13) else s.setWerr

/-- A write to the buffer window (20_memory.md R66, R70). -/
def State.writeBufferWindow (s : State) (k : Reg) (w : Word) : State :=
  if s.busy then s.setWerr else s.setBytes (4 * k.val) (bytesOfWord w)

/-- HostWrite (20_memory.md R64 to R68, R70): writes to read-only registers and reserved addresses are ignored. -/
def State.hostWrite (s : State) (waddr : BitVec 12) (w : Word) : State :=
  match locate waddr with
  | .id => s
  | .cmd => s.writeCmd w
  | .status => s.clearFlags w
  | .cause => s
  | .ctrl => s.writeCtrl w
  | .inten => s.setInten w
  | .streamIn => s.pushStream w
  | .scalar r => s.writeScalarWindow r w
  | .buffer k => s.writeBufferWindow k w
  | .coef p j => s.writeCoefWindow p j w
  | .reserved => s

end Sys2Proof.Machine
end

