-- ==== Sys2Proof/Machine/Engine.lean ====
section
/-! DEFINITION. The two agents' steps and the reset input, one event at a time (10_state.md R20, 20_memory.md R69). -/

namespace Sys2Proof.Machine

/-- The engine's step: it decodes and checks CUR and takes a step of the command (40_command.md R122); with no command in
flight it has no step to take, and the state stays. -/
def engineStep (s : State) : Host.Outcome State Fault Refusal :=
  if s.busy then
    match decode s.cur with
    | .ok i => exec i s
    | .error e => .next (s.cmdError (decodeErrorCause e))
  else .next s

/-- What happens at an event (10_state.md R20, 20_memory.md R63, R69, 70_reset_and_hazards.md R300). -/
def runEvent (e : Event) (s : State) : Host.Outcome State Fault Refusal :=
  match e with
  | .engine => engineStep s
  | .hostRead waddr => .next (s.hostRead waddr)
  | .hostWrite waddr w => .next (s.hostWrite waddr w)
  | .otherWidth => .refused .accessWidth
  | .hardReset => .next s.hardReset

/-- The command word `w` issued as by a host write to CMD with BUSY = 0 (40_command.md R120), the engine next to move. -/
def State.withCommand (s : State) (w : Word) : State := { s.issue w with script := .engine :: s.script }

end Sys2Proof.Machine
end

