-- ==== Sys2Proof/Machine/Step.lean ====
section
/-! DEFINITION. One step of the machine: the next event of the schedule happens (20_memory.md R69). -/

namespace Sys2Proof.Machine

/-- One step: the next event, in the state in which the schedule and the counter of draws have moved on. -/
def step (s : State) : Host.Outcome State Fault Refusal := runEvent s.nextEvent s.advance

/-- The CORE fetches nothing (20_memory.md R74): a command comes in flight by a host write to CMD. This puts the command
word there as such a write does (40_command.md R120) and gives the engine the next step. Log entry 10. -/
def State.withFetchWord (s : State) (nbits w : Nat) : State := s.withCommand (tableWord nbits w)

end Sys2Proof.Machine
end

