-- ==== Sys2Proof/Safety.lean ====
section
/-! DEFINITION. What counts as a safe run, and the terms claims use: which reads find an unwritten cell (10_state.md R39),
the invariants of the machine, and what a command leaves unchanged. -/

namespace Sys2Proof.Machine

/-! ### Reads of unwritten cells

The spec says of such a read that "a model treats [it] as a fault" (10_state.md R39, 93_implementation_defined.md S1, S2).
This model goes on with a value (log entries 1 to 3) and names the read here. -/

/-- S[r] has been written since reset and not been lost to an abort. -/
def State.scalarWritten (s : State) (r : Reg) : Bool := (s.S.get r).origin == .written

/-- Every lane of PR[p] has been written. -/
def State.polyWritten (s : State) (p : Reg) : Bool := (s.PR.get p).toList.all fun c => c.origin == .written

/-- BUF[k..k+n-1] has been written. -/
def State.bytesWritten (s : State) (k n : Nat) : Bool :=
  (List.range n).all fun j => s.bufOrigin[k + j]? == some .written

/-- Every cell the command reads as a source has been written (70_reset_and_hazards.md R304, duty 3). -/
def sourcesWritten (s : State) : Instr → Bool
  | .nop => true
  | .sadd _ a b => s.scalarWritten a && s.scalarWritten b
  | .ssub _ a b => s.scalarWritten a && s.scalarWritten b
  | .smul _ a b => s.scalarWritten a && s.scalarWritten b
  | .sinv _ a => s.scalarWritten a
  | .pzero _ => true
  | .padd _ a b => s.polyWritten a && s.polyWritten b
  | .psub _ a b => s.polyWritten a && s.polyWritten b
  | .pmul _ a b => s.polyWritten a && s.polyWritten b
  | .pmac d a b => s.polyWritten d && s.polyWritten a && s.polyWritten b
  | .ntt _ a => s.polyWritten a
  | .intt _ a => s.polyWritten a
  | .sampu _ => true
  | .cbd1 _ => true
  | .cbd2 _ => true
  | .cmp10 a => s.polyWritten a
  | .dec10 _ => s.bytesWritten 0 80
  | .cmp3 a => s.polyWritten a
  | .dec3 _ => s.bytesWritten 0 24
  | .ser13 a => s.polyWritten a
  | .des13 _ => s.bytesWritten 0 104

/-- The cells a host read of this word returns have been written. -/
def readWritten (s : State) (waddr : BitVec 12) : Bool :=
  match locate waddr with
  | .scalar r => s.scalarWritten r
  | .buffer k => s.bytesWritten (4 * k.val) 4
  | .coef p j => ((s.PR.get p).get j).origin == .written
  | _ => true

/-- The event reads no unwritten cell. -/
def safeEvent (s : State) : Event → Bool
  | .engine => !s.busy || (match decode s.cur with | .ok i => sourcesWritten s i | .error _ => true)
  | .hostRead waddr => s.busy || readWritten s waddr
  | _ => true

/-- The coming step reads no unwritten cell: what the spec's programs must respect (70_reset_and_hazards.md R304). -/
def safeStep (s : State) : Bool := safeEvent s s.nextEvent

/-! ### Invariants -/

/-- Every value in S and PR that a host write or a command has written is canonical, an integer in [0, q) (10_state.md R25);
R25 says nothing of a cell that is unwritten. -/
def State.Canonical (s : State) : Prop :=
  (∀ r : Reg, (s.S.get r).origin = .written → (s.S.get r).val.toNat < Config.q) ∧
    ∀ (p : Reg) (j : Lane), ((s.PR.get p).get j).origin = .written → ((s.PR.get p).get j).val.toNat < Config.q

/-- BUF is in canonical form, its indexes below 128, and FIFO holds at most 64 bytes (10_state.md R26, R36). -/
def State.StorageInRange (s : State) : Prop := Memory.wf s.BUF ∧ s.FIFO.length ≤ Config.fifoBytes

/-- The control state agrees with itself: DONE is clear while a command is in flight (40_command.md R120, R124), CUR is the
word of LASTCMD then (R120), CAUSE names an error exactly while ERR is set (10_state.md R29, 60_exceptions.md R273), and its
code is one of R271's. -/
def State.ControlConsistent (s : State) : Prop :=
  (s.busy = true → s.done = false ∧ s.cur = s.lastCmd) ∧ (s.err = true ↔ s.cause ≠ 0) ∧ s.cause.toNat ≤ 4

/-- The in-flight state is in the ranges of 10_state.md R37 and 44_samplers.md R202: the bits of ACC above NB are 0, NB is at
most 12 between byte steps, IDX is below 64 while a command is in flight, and even for CBD1 and CBD2. -/
def State.StreamInRange (s : State) : Prop :=
  s.nb ≤ 12 ∧ s.acc.toNat < 2 ^ s.nb ∧
    (s.busy = true → s.idx < 64 ∧
      ∀ d : Reg, decode s.cur = .ok (.cbd1 d) ∨ decode s.cur = .ok (.cbd2 d) → s.idx % 2 = 0) ∧
    (s.decoded = true → s.busy = true ∧ s.curIsStream = true)

/-- All the invariants of the machine. -/
def State.Inv (s : State) : Prop := s.Canonical ∧ s.StorageInRange ∧ s.ControlConsistent ∧ s.StreamInRange

/-! ### What a command leaves unchanged -/

/-- BUF is as before: every byte reads as before, and its origin is as before. -/
def SameBuf (s t : State) : Prop := (∀ k : Nat, t.byte k = s.byte k) ∧ t.bufOrigin = s.bufOrigin

/-- BUF is as before from index `n` up. -/
def SameBufFrom (n : Nat) (s t : State) : Prop :=
  ∀ k : Nat, n ≤ k → t.byte k = s.byte k ∧ t.bufOrigin[k]? = s.bufOrigin[k]?

/-- S is as before but for register `d`. -/
def SameScalarsBut (d : Reg) (s t : State) : Prop := ∀ r : Reg, r ≠ d → t.S.get r = s.S.get r

/-- PR is as before but for register `d`. -/
def SamePolysBut (d : Reg) (s t : State) : Prop := ∀ p : Reg, p ≠ d → t.PR.get p = s.PR.get p

/-- The flags that no normal completion writes, CAUSE, LASTCMD and INTEN are as before (40_command.md R124). -/
def SameControl (s t : State) : Prop :=
  t.err = s.err ∧ t.werr = s.werr ∧ t.sovf = s.sovf ∧ t.cause = s.cause ∧ t.lastCmd = s.lastCmd ∧ t.doneIE = s.doneIE ∧
    t.errIE = s.errIE

/-- The host's side is as before: the read datum, the schedule and the counter of draws. -/
def SameHostSide (s t : State) : Prop := t.rdata = s.rdata ∧ t.script = s.script ∧ t.draws = s.draws

/-- The in-flight fields are as before. -/
def SameInFlight (s t : State) : Prop := t.cur = s.cur ∧ t.acc = s.acc ∧ t.nb = s.nb ∧ t.idx = s.idx

/-- The command has completed: BUSY = 0, DONE = 1, and nothing but its destination and those two has changed among the
flags, the special registers, FIFO, the in-flight fields and the host's side (40_command.md R124). -/
def CompletedKeeping (s t : State) : Prop :=
  t.busy = false ∧ t.done = true ∧ SameControl s t ∧ t.FIFO = s.FIFO ∧ SameInFlight s t ∧ SameHostSide s t

/-- The command has ended with the error `code` and no other effect (60_exceptions.md R273). -/
def FailedKeeping (code : BitVec 4) (s t : State) : Prop :=
  t.cause = code ∧ t.err = true ∧ t.busy = false ∧ t.done = true ∧ t.S = s.S ∧ t.PR = s.PR ∧ SameBuf s t ∧ t.FIFO = s.FIFO ∧
    t.werr = s.werr ∧ t.sovf = s.sovf ∧ t.lastCmd = s.lastCmd ∧ t.doneIE = s.doneIE ∧ t.errIE = s.errIE ∧
    SameInFlight s t ∧ SameHostSide s t

/-- The modular distance |e|_q (45_codec.md R240). -/
def modDistance (e : Int) : Int := min (e % 7681) (7681 - e % 7681)

/-- `brv6(k)`: the 6-bit binary form of k reversed (00_scope.md R9). -/
def brv6 (k : Nat) : Nat :=
  32 * (k % 2) + 16 * (k / 2 % 2) + 8 * (k / 4 % 2) + 4 * (k / 8 % 2) + 2 * (k / 16 % 2) + k / 32 % 2

end Sys2Proof.Machine
end

