-- ==== Sys2Proof/Certificates/Slice0/Obligations.lean ====
section
/-! DEFINITION. The statements about the machine, each from the numbered rules of spec/ that its entry in OBLIGATIONS.json cites,
and the few terms they share beside Safety.lean's. A register or a byte is read through `scalar`, `coef` and `byte`, which give
a free value for a cell that an abort left unwritten; every statement holds whatever those values are. -/

namespace Sys2Proof.Machine

/-! ### Shared terms -/

/-- The word address of a byte address of 20_memory.md R61. -/
def atByte (a : Nat) : BitVec 12 := BitVec.ofNat 12 (a / 4)

/-- The 43 opcodes of 30_encoding.md R96: 0x05..0x0F, 0x15..0x17, 0x1A..0x1F, 0x23..0x27, 0x2E..0x3F. -/
def unusedOpcode (op : Nat) : Prop :=
  (0x05 ≤ op ∧ op ≤ 0x0F) ∨ (0x15 ≤ op ∧ op ≤ 0x17) ∨ (0x1A ≤ op ∧ op ≤ 0x1F) ∨ (0x23 ≤ op ∧ op ≤ 0x27) ∨
    (0x2E ≤ op ∧ op ≤ 0x3F)

/-- S, PR and BUF are as before. -/
def SameData (s t : State) : Prop := t.S = s.S ∧ t.PR = s.PR ∧ SameBuf s t

/-- S[d] holds the number `v`, freshly written, the command has completed, and nothing else has changed. -/
def WritesScalar (d : Reg) (v : Int) (s t : State) : Prop :=
  ((t.S.get d).val.toNat : Int) = v ∧ (t.S.get d).origin = .written ∧ SameScalarsBut d s t ∧ t.PR = s.PR ∧ SameBuf s t ∧
    CompletedKeeping s t

/-- Lane j of PR[d] holds the number `v j`, freshly written, for every j, the command has completed, and nothing else has
changed. -/
def WritesPoly (d : Reg) (v : Lane → Int) (s t : State) : Prop :=
  (∀ j : Lane, (((t.PR.get d).get j).val.toNat : Int) = v j ∧ ((t.PR.get d).get j).origin = .written) ∧
    SamePolysBut d s t ∧ t.S = s.S ∧ SameBuf s t ∧ CompletedKeeping s t

/-- Byte k of BUF holds the number `v k` mod 256, freshly written, for every k below n, the command has completed, and nothing
else has changed. -/
def WritesBytes (n : Nat) (v : Nat → Nat) (s t : State) : Prop :=
  (∀ k : Nat, k < n → (t.byte k).toNat = v k % 256 ∧ t.bufOrigin[k]? = some .written) ∧ SameBufFrom n s t ∧ t.S = s.S ∧
    t.PR = s.PR ∧ CompletedKeeping s t

/-- Coefficient j of PR[p] as a number. -/
def coefNat (s : State) (p : Reg) (j : Lane) : Nat := (s.coef p j).toNat

/-- `sum_i v[i] << (d*i)` over the 64 values (45_codec.md R233). -/
def packedNumber (d : Nat) (v : Lane → Nat) : Nat := ∑ i : Lane, v i * 2 ^ (d * i.val)

/-- `sum_k BUF[k] << (8*k)` over the first n bytes (45_codec.md R233). -/
def bufferNumber (n : Nat) (s : State) : Nat := ∑ k ∈ Finset.range n, (s.byte k).toNat * 2 ^ (8 * k)

/-- Field i of d bits of BUF's first n bytes (45_codec.md R233). -/
def bufferField (n d : Nat) (s : State) (i : Nat) : Nat := bufferNumber n s / 2 ^ (d * i) % 2 ^ d

/-- A polynomial of canonical coefficients (00_scope.md R14). -/
def CanonicalPoly (p : Poly) : Prop := ∀ j : Lane, (p.get j).toNat < 7681

/-- `sum_{i+j=m} p[i]*r[j] - sum_{i+j=m+64} p[i]*r[j]`: coefficient m of the product in Z[x]/(x^64+1) (43_ntt.md R190). -/
def ringProductCoef (p r : Poly) (m : Lane) : Int :=
  ∑ i : Lane, ∑ j : Lane,
    if i.val + j.val = m.val then ((p.get i).toNat : Int) * (r.get j).toNat
    else if i.val + j.val = m.val + 64 then -(((p.get i).toNat : Int) * (r.get j).toNat)
    else 0

/-- Chunk m of a byte string: bits 13m to 13m+12 (44_samplers.md R203, 20_memory.md R77). -/
def streamChunk (bs : List Byte) (m : Nat) : Nat := joinFields 8 (bs.map BitVec.toNat) / 2 ^ (13 * m) % 2 ^ 13

/-- The chunks among the first `n` that are accepted, in order (44_samplers.md R203). -/
def acceptedChunks (bs : List Byte) (n : Nat) : List Nat := ((List.range n).map (streamChunk bs)).filter (· < 7681)

/-- The stream command `i` in flight, with no byte of its stream popped yet (40_command.md R120, 44_samplers.md R202). -/
def FreshStream (i : Instr) (s : State) : Prop :=
  s.busy = true ∧ s.cur = encode i ∧ s.acc = 0 ∧ s.nb = 0 ∧ s.idx = 0

/-- A schedule in which the engine moves and the host reads and feeds the stream, in any order. -/
def FeedingSchedule (es : List Event) : Prop :=
  ∀ e ∈ es, e = .engine ∨ (∃ a, e = .hostRead a) ∨ ∃ w, e = .hostWrite (atByte 0x018) w

/-- The bytes an event pushes: the four of a write, the low one first (10_state.md R34). -/
def pushedBytes : Event → List Byte
  | .hostWrite _ w => [BitVec.ofNat 8 w.toNat, BitVec.ofNat 8 (w.toNat / 2 ^ 8), BitVec.ofNat 8 (w.toNat / 2 ^ 16),
      BitVec.ofNat 8 (w.toNat / 2 ^ 24)]
  | _ => []

/-- The stream a sampler has before it: what FIFO holds, then what the schedule pushes. -/
def comingStream (s : State) : List Byte := s.FIFO ++ s.script.flatMap pushedBytes

/-- A finished stream command: BUSY = 0, DONE = 1, `rest` left in FIFO, PR[d] holding `v`, nothing else changed but the
in-flight fields and the model's counter of draws. -/
def StreamFinished (d : Reg) (v : Lane → Nat) (rest : List Byte) (s t : State) : Prop :=
  t.busy = false ∧ t.done = true ∧ t.FIFO = rest ∧
    (∀ j : Lane, ((t.PR.get d).get j).val.toNat = v j ∧ ((t.PR.get d).get j).origin = .written) ∧ SamePolysBut d s t ∧
    t.S = s.S ∧ t.BUF = s.BUF ∧ t.bufOrigin = s.bufOrigin ∧ SameControl s t ∧ t.rdata = s.rdata ∧ t.script = s.script

/-- Nibble j of a byte string, the low one of a byte first (44_samplers.md R204). -/
def streamNibble (bs : List Byte) (j : Nat) : Nat := (bs.getD (j / 2) 0).toNat / 16 ^ (j % 2) % 16

/-- The nibble-to-value table of CBD1 (44_samplers.md R204), -1 stored as 7680. -/
def cbd1Table (n : Nat) : Nat := [0, 1, 7680, 0, 0, 1, 7680, 0, 0, 1, 7680, 0, 0, 1, 7680, 0].getD n 0

/-- The nibble-to-value table of CBD2 (44_samplers.md R205), -1 and -2 stored as 7680 and 7679. -/
def cbd2Table (n : Nat) : Nat := [0, 1, 1, 2, 7680, 0, 0, 1, 7680, 0, 0, 1, 7679, 7680, 7680, 0].getD n 0

/-- A byte step that leaves the command in flight or, at the 64th coefficient, completes it: what both keep. -/
def ByteStepKeeps (d : Reg) (s t : State) : Prop :=
  SamePolysBut d s t ∧ t.S = s.S ∧ SameBuf s t ∧ SameControl s t ∧ t.cur = s.cur ∧ SameHostSide s t

/-- BUSY, DONE and IDX after a byte step that has brought IDX to `n` (40_command.md R125). -/
def ByteStepProgress (n : Nat) (s t : State) : Prop :=
  t.idx = n ∧ t.busy = (s.busy && n != 64) ∧ t.done = (s.done || n == 64) ∧ t.decoded = (n != 64)

/-- The scalar register a command could write (70_reset_and_hazards.md R302). -/
def scalarDestination : Instr → Option Reg
  | .sadd d _ _ | .ssub d _ _ | .smul d _ _ | .sinv d _ => some d
  | _ => none

/-- The polynomial register a command could write (70_reset_and_hazards.md R302). -/
def polyDestination : Instr → Option Reg
  | .pzero d | .padd d _ _ | .psub d _ _ | .pmul d _ _ | .pmac d _ _ | .ntt d _ | .intt d _ | .sampu d | .cbd1 d | .cbd2 d
  | .dec10 d | .dec3 d | .des13 d => some d
  | _ => none

/-- How many bytes of BUF, from byte 0 up, a command could write (45_codec.md R230). -/
def bufferRegion : Instr → Nat
  | .cmp10 _ => 80
  | .cmp3 _ => 24
  | .ser13 _ => 104
  | _ => 0

/-- The control and status state of 10_state.md R40 at its reset values, with no command in flight. -/
def ControlAtReset (s : State) : Prop :=
  s.FIFO = [] ∧ s.statusWord = 0 ∧ s.causeWord = 0 ∧ s.lastCmd = 0 ∧ s.intenWord = 0 ∧ s.cur = 0 ∧ s.acc = 0 ∧ s.nb = 0 ∧
    s.idx = 0 ∧ s.busy = false ∧ s.decoded = false ∧ s.irq = false ∧ s.readWord 0 = 0x1E014001#32

/-- Every cell of S, PR and BUF is unwritten since reset (10_state.md R39, R40). -/
def DataUnwritten (s : State) : Prop :=
  (∀ r : Reg, (s.S.get r).origin = .atReset) ∧ (∀ (p : Reg) (j : Lane), ((s.PR.get p).get j).origin = .atReset) ∧
    ∀ k : Nat, k < 128 → s.bufOrigin[k]? = some .atReset

/-- An outcome with the counter of draws set to `n` in its next state. -/
def withDraws (n : Nat) : Host.Outcome State Fault Refusal → Host.Outcome State Fault Refusal
  | .next t => .next { t with draws := n }
  | .fault r => .fault r
  | .refused r => .refused r

/-- A byte step of CBD1 or CBD2 on byte `b`, with its nibble-to-value table (44_samplers.md R204, R205). -/
def CbdByteStep (table : Nat → Nat) (d : Reg) (b : Byte) (rest : List Byte) (s t : State) : Prop :=
  t.FIFO = rest ∧ ByteStepKeeps d s t ∧ ByteStepProgress (s.idx + 2) s t ∧ t.acc = s.acc ∧ t.nb = s.nb ∧
    ∀ j : Lane, (t.PR.get d).get j =
      if j.val = s.idx then ⟨BitVec.ofNat 13 (table (b.toNat % 16)), .written⟩
      else if j.val = s.idx + 1 then ⟨BitVec.ofNat 13 (table (b.toNat / 16)), .written⟩
      else (s.PR.get d).get j

end Sys2Proof.Machine

open Sys2Proof Sys2Proof.Machine

/-! ### Encoding -/

/-- Decoding an encoded command gives it back, at every value of every field (30_encoding.md sections 1 and 2). -/
def Obligations.DecodeOfEncodeIsTheCommand : Prop := ∀ i : Instr, decode (encode i) = .ok i

/-- A word that decodes to a command is that command's encoding: no command has two words (30_encoding.md section 2). -/
def Obligations.EncodeOfDecodeIsTheWord : Prop := ∀ (w : Word) (i : Instr), decode w = .ok i → encode i = w

/-- R95: a word is the command named in a row exactly when `(w & mask) == match`. -/
def Obligations.OpcodeRowsNameTheirWords : Prop :=
  ∀ (w : Word) (r : OpcodeRow), r ∈ opcodeRows →
    (w &&& r.mask = r.pattern ↔ ∃ i : Instr, decode w = .ok i ∧ mnemonicOf i = r.mnemonic)

/-- R98: every word is a legal command of R95, an illegal-opcode word or a reserved-field word, and the decoder says which. -/
def Obligations.EveryWordIsOneOfThreeKinds : Prop :=
  ∀ w : Word,
    (wellFormedWord w = true ↔ ∃ i : Instr, decode w = .ok i) ∧
    (legalOpcode w = false ↔ decode w = .error .illegalOpcode) ∧
    (legalOpcode w = true ∧ wellFormedWord w = false ↔ decode w = .error .reservedField)

/-- R96: a word of one of the 43 unused opcodes is accepted at issue like any other word and ends with error 1 and no other
effect; no other word decodes to ILLEGAL_OPCODE. -/
def Obligations.IllegalOpcodeEndsWithCode1 : Prop :=
  ∀ w : Word,
    (unusedOpcode (opField w) ↔ decode w = .error .illegalOpcode) ∧
    ∀ s : State, unusedOpcode (opField w) →
      (s.busy = false → s.hostWrite (atByte 0x004) w = s.issue w) ∧
      (s.busy = true → s.cur = w → ∃ t, engineStep s = .next t ∧ FailedKeeping 1 s t)

/-- R97: a word whose opcode is legal but which no row of R95 covers ends with error 2 and no other effect. -/
def Obligations.ReservedFieldEndsWithCode2 : Prop :=
  ∀ s : State, s.busy = true → legalOpcode s.cur = true → wellFormedWord s.cur = false →
    ∃ t, engineStep s = .next t ∧ FailedKeeping 2 s t

/-- One word of each opcode group, written out from R91 and R95, decodes to its command. -/
def Obligations.SampleWordsDecode : Prop :=
  decode 0x00000000#32 = .ok .nop ∧ decode 0x04611000#32 = .ok (.sadd 3 1 2) ∧ decode 0x50611000#32 = .ok (.pmac 3 1 2) ∧
    decode 0x60210000#32 = .ok (.ntt 1 1) ∧ decode 0x84000000#32 = .ok (.cbd1 0) ∧ decode 0xA0020000#32 = .ok (.cmp10 2) ∧
    decode 0xB4E00000#32 = .ok (.des13 7)

/-! ### A step -/

/-- When the engine moves and CUR decodes to the command i, the step is exec of i, in the state in which the schedule and the
counter of draws have moved on. -/
def Obligations.StepRunsTheCommandInFlight : Prop :=
  ∀ (s : State) (i : Instr), s.nextEvent = .engine → s.busy = true → decode s.cur = .ok i →
    step s = exec i { s with script := s.script.tail, draws := s.draws + 1 }

/-- A scheduled event is what happens, and past the schedule's end the engine moves: an engine step, a HostRead, a HostWrite, the
refusal of an access of another width (20_memory.md section 3) or the reset (70_reset_and_hazards.md section 1), in the state in
which the schedule and the counter of draws have moved on. The schedule and the counter are the model's own (log entries 4, 5), as
are one event for a whole reset (log entry 7) and the refused access as an event (log entry 11). -/
def Obligations.StepIsTheNextEvent : Prop :=
  (∀ (s : State) (e : Event) (rest : List Event), s.script = e :: rest →
    step s = runEvent e { s with script := rest, draws := s.draws + 1 }) ∧
  (∀ s : State, s.script = [] → step s = engineStep { s with draws := s.draws + 1 }) ∧
  ∀ s t : State, t = { s with script := s.script.tail, draws := s.draws + 1 } →
    (s.nextEvent = .engine → step s = engineStep t) ∧
    (∀ a : BitVec 12, s.nextEvent = .hostRead a → step s = .next (t.hostRead a)) ∧
    (∀ (a : BitVec 12) (w : Word), s.nextEvent = .hostWrite a w → step s = .next (t.hostWrite a w)) ∧
    (s.nextEvent = .otherWidth → step s = .refused .accessWidth) ∧
    (s.nextEvent = .hardReset → step s = .next t.hardReset)

/-- A command word placed by withFetchWord runs in the very next step. -/
def Obligations.PlacedCommandRunsNext : Prop :=
  ∀ (s : State) (i : Instr),
    step (s.withFetchWord 32 (encode i).toNat) = exec i { s.issue (encode i) with draws := s.draws + 1 }

/-! ### The command protocol -/

/-- R120, R121: a write to CMD is an issue when BUSY = 0, and is dropped with WERR when BUSY = 1. -/
def Obligations.CommandIssue : Prop :=
  ∀ (s : State) (w : Word),
    (s.busy = false → ∃ t, s.hostWrite (atByte 0x004) w = t ∧ t.lastCmd = w ∧ t.cur = w ∧ t.done = false ∧ t.busy = true ∧
      t.acc = 0 ∧ t.nb = 0 ∧ t.idx = 0 ∧ t.err = s.err ∧ t.werr = s.werr ∧ t.sovf = s.sovf ∧ t.cause = s.cause ∧
      t.FIFO = s.FIFO ∧ t.doneIE = s.doneIE ∧ t.errIE = s.errIE ∧ SameData s t) ∧
    (s.busy = true → s.hostWrite (atByte 0x004) w = { s with werr := true })

/-- R127: NOP is the word 0 only, any other word of opcode 0 is RESERVED_FIELD, and NOP does nothing but complete. -/
def Obligations.NopCompletes : Prop :=
  decode 0#32 = .ok .nop ∧ (∀ w : Word, opField w = 0 → w ≠ 0 → decode w = .error .reservedField) ∧
    ∀ s : State, ∃ t, exec .nop s = .next t ∧ CompletedKeeping s t ∧ SameData s t

/-! ### Scalar commands -/

/-- R141: SADD. -/
def Obligations.SaddWritesTheSum : Prop :=
  ∀ d a b : Reg, decode (encodeFields 0x01 d a b) = .ok (.sadd d a b) ∧
    ∀ s : State, ∃ t, exec (.sadd d a b) s = .next t ∧
      WritesScalar d ((((s.scalar a).toNat : Int) + (s.scalar b).toNat) % 7681) s t

/-- R142: SSUB; the remainder is the floor remainder, so the result is never negative. -/
def Obligations.SsubWritesTheDifference : Prop :=
  ∀ d a b : Reg, decode (encodeFields 0x02 d a b) = .ok (.ssub d a b) ∧
    ∀ s : State, ∃ t, exec (.ssub d a b) s = .next t ∧
      WritesScalar d ((((s.scalar a).toNat : Int) - (s.scalar b).toNat) % 7681) s t

/-- R143: SMUL. -/
def Obligations.SmulWritesTheProduct : Prop :=
  ∀ d a b : Reg, decode (encodeFields 0x03 d a b) = .ok (.smul d a b) ∧
    ∀ s : State, ∃ t, exec (.smul d a b) s = .next t ∧
      WritesScalar d ((((s.scalar a).toNat : Int) * (s.scalar b).toNat) % 7681) s t

/-- R144: SINV. On 0 it ends with INV_ZERO and S[D] keeps its value; otherwise S[D] gets a^(q-2) mod q, which for a canonical
source is the unique inverse of a in [1, q). -/
def Obligations.SinvWritesTheInverse : Prop :=
  ∀ d a : Reg, decode (encodeFields 0x04 d a 0) = .ok (.sinv d a) ∧
    ∀ s : State,
      (s.scalar a = 0 → ∃ t, exec (.sinv d a) s = .next t ∧ FailedKeeping 3 s t) ∧
      (s.scalar a ≠ 0 → ∃ t, exec (.sinv d a) s = .next t ∧
        WritesScalar d (((s.scalar a).toNat ^ fermatExponent % 7681 : Nat) : Int) s t ∧
        ((s.scalar a).toNat < 7681 → ∀ x : Nat, 1 ≤ x → x < 7681 →
          ((s.scalar a).toNat * x % 7681 = 1 ↔ x = (t.S.get d).val.toNat)))

/-! ### Polynomial commands -/

/-- R161: PZERO. -/
def Obligations.PzeroWritesZero : Prop :=
  ∀ d : Reg, decode (encodeFields 0x10 d 0 0) = .ok (.pzero d) ∧
    ∀ s : State, ∃ t, exec (.pzero d) s = .next t ∧ WritesPoly d (fun _ => 0) s t

/-- R162: PADD. -/
def Obligations.PaddWritesTheLaneSums : Prop :=
  ∀ d a b : Reg, decode (encodeFields 0x11 d a b) = .ok (.padd d a b) ∧
    ∀ s : State, ∃ t, exec (.padd d a b) s = .next t ∧
      WritesPoly d (fun j => ((coefNat s a j : Int) + coefNat s b j) % 7681) s t

/-- R163: PSUB. -/
def Obligations.PsubWritesTheLaneDifferences : Prop :=
  ∀ d a b : Reg, decode (encodeFields 0x12 d a b) = .ok (.psub d a b) ∧
    ∀ s : State, ∃ t, exec (.psub d a b) s = .next t ∧
      WritesPoly d (fun j => ((coefNat s a j : Int) - coefNat s b j) % 7681) s t

/-- R164: PMUL. -/
def Obligations.PmulWritesTheLaneProducts : Prop :=
  ∀ d a b : Reg, decode (encodeFields 0x13 d a b) = .ok (.pmul d a b) ∧
    ∀ s : State, ∃ t, exec (.pmul d a b) s = .next t ∧
      WritesPoly d (fun j => ((coefNat s a j : Int) * coefNat s b j) % 7681) s t

/-- PMAC's pseudocode: PR[D] before the command is the accumulator, even where it is a factor too. The fault that R165 asks of a
model for an unwritten PR[D] is not stated: the machine goes on (log entries 1 and 3). -/
def Obligations.PmacAccumulatesTheLaneProducts : Prop :=
  ∀ d a b : Reg, decode (encodeFields 0x14 d a b) = .ok (.pmac d a b) ∧
    ∀ s : State, ∃ t, exec (.pmac d a b) s = .next t ∧
      WritesPoly d (fun j => ((coefNat s d j : Int) + (coefNat s a j : Int) * coefNat s b j) % 7681) s t

/-! ### Transforms -/

/-- The twiddle table is the powers of PSI in bit-reversed order, PSI is the smallest primitive 128th root of unity, and NINV is
the inverse of 64 (43_ntt.md, the convention and the table). -/
def Obligations.TwiddlesArePowersOfPsi : Prop :=
  (∀ k : Nat, k < 64 → (zeta k).toNat = Config.psi ^ brv6 k % 7681) ∧ Config.psi ^ 64 % 7681 = 7680 ∧
    (∀ x : Nat, x < Config.psi → x ^ 64 % 7681 ≠ 7680) ∧ 64 * Config.ninv % 7681 = 1

/-- NTT and INTT complete, writing the transform, the inverse transform, of the snapshot of PR[A] into PR[D] and nothing else. -/
def Obligations.TransformCommandsWriteTheTransform : Prop :=
  ∀ d a : Reg, decode (encodeFields 0x18 d a 0) = .ok (.ntt d a) ∧ decode (encodeFields 0x19 d a 0) = .ok (.intt d a) ∧
    ∀ s : State,
      (∃ t, exec (.ntt d a) s = .next t ∧ WritesPoly d (fun j => (((nttPoly (s.poly a)).get j).toNat : Int)) s t) ∧
      ∃ t, exec (.intt d a) s = .next t ∧ WritesPoly d (fun j => (((inttPoly (s.poly a)).get j).toNat : Int)) s t

/-- R183: output lane i of NTT is the value of the polynomial at PSI^(2·brv6(i)+1). -/
def Obligations.NttEvaluatesAtTheOddPowers : Prop :=
  ∀ (a : Poly) (i : Lane), CanonicalPoly a →
    ((nttPoly a).get i).toNat =
      (∑ j : Lane, (a.get j).toNat * Config.psi ^ ((2 * brv6 i.val + 1) * j.val)) % 7681

/-- The closed form of INTT that R184 gives, with PSI^-1 = 4601. -/
def Obligations.InttIsTheScaledInverseSum : Prop :=
  ∀ (b : Poly) (j : Lane), CanonicalPoly b →
    ((inttPoly b).get j).toNat =
      Config.ninv * (∑ i : Lane, (b.get i).toNat * 4601 ^ ((2 * brv6 i.val + 1) * j.val)) % 7681

/-- R185: the two transforms undo each other on every canonical polynomial. -/
def Obligations.TransformsRoundTrip : Prop :=
  ∀ p : Poly, CanonicalPoly p → inttPoly (nttPoly p) = p ∧ nttPoly (inttPoly p) = p

/-- R190: through the transforms, PMUL is the product in Z_q[x]/(x^64+1), and PMAC is the product added to the accumulator. -/
def Obligations.PointwiseProductIsTheRingProduct : Prop :=
  ∀ (p r : Poly) (m : Lane), CanonicalPoly p → CanonicalPoly r →
    (((inttPoly (polyMul (nttPoly p) (nttPoly r))).get m).toNat : Int) = ringProductCoef p r m % 7681 ∧
    ∀ c : Poly, CanonicalPoly c →
      (((inttPoly (polyMac (nttPoly c) (nttPoly p) (nttPoly r))).get m).toNat : Int) =
        ((c.get m).toNat + ringProductCoef p r m) % 7681

/-! ### Stream commands -/

/-- The first engine step of a stream command is decode and check alone, and while FIFO is empty the command is held, BUSY and
SWAIT set, until a write to STREAM_IN (40_command.md R125, 44_samplers.md R201). Two points are the model's choice: that the first
step is taken whether FIFO is empty or not and is kept in the field `decoded` (log entry 6, DEDUCED), and that an engine step of a
held command answers the same state (log entry 5, DESIGN CHOICE). -/
def Obligations.StreamCommandsDecodeThenHold : Prop :=
  ∀ (i : Instr) (s : State), isStream i = true →
    (s.decoded = false → exec i s = .next { s with decoded := true }) ∧
    (s.decoded = true → s.FIFO = [] → exec i s = .next s) ∧
    (s.busy = true → s.cur = encode i → s.FIFO = [] → s.swait = true ∧
      ∀ w : Word, (s.hostWrite (atByte 0x018) w).swait = false ∧ (s.hostWrite (atByte 0x018) w).FIFO.length = 4)

/-- SAMPU's byte step: the byte enters ACC above its NB bits; when 13 bits are there the lowest 13 leave it, and they are
coefficient IDX exactly when they are below q; at the 64th coefficient the rest of the byte is discarded and the command
completes (44_samplers.md, SAMPU's pseudocode). -/
def Obligations.SampuByteStep : Prop :=
  ∀ (d : Reg) (s : State) (b : Byte) (rest : List Byte) (acc n : Nat),
    s.decoded = true → s.FIFO = b :: rest → s.nb ≤ 12 → s.acc.toNat < 2 ^ s.nb → s.idx < 64 →
    acc = s.acc.toNat + b.toNat * 2 ^ s.nb →
    n = (if 5 ≤ s.nb ∧ acc % 8192 < 7681 then s.idx + 1 else s.idx) →
    ∃ t, exec (.sampu d) s = .next t ∧ t.FIFO = rest ∧ ByteStepKeeps d s t ∧ ByteStepProgress n s t ∧
      (∀ j : Lane, (t.PR.get d).get j =
        if 5 ≤ s.nb ∧ acc % 8192 < 7681 ∧ j.val = s.idx then ⟨BitVec.ofNat 13 (acc % 8192), .written⟩
        else (s.PR.get d).get j) ∧
      t.acc.toNat = (if n = 64 then 0 else if 5 ≤ s.nb then acc / 8192 else acc) ∧
      t.nb = (if n = 64 then 0 else if 5 ≤ s.nb then s.nb - 5 else s.nb + 8)

/-- The byte steps of CBD1 and CBD2: the two nibbles of the byte, the low one first, give coefficients IDX and IDX + 1
(44_samplers.md, the pseudocode of CBD1 and CBD2). -/
def Obligations.CbdByteSteps : Prop :=
  ∀ (d : Reg) (s : State) (b : Byte) (rest : List Byte), s.decoded = true → s.FIFO = b :: rest → s.idx + 2 ≤ 64 →
    (∃ t, exec (.cbd1 d) s = .next t ∧ CbdByteStep cbd1Table d b rest s t) ∧
    (∃ t, exec (.cbd2 d) s = .next t ∧ CbdByteStep cbd2Table d b rest s t)

/-- R204, R205: CBD1 and CBD2 pop exactly 32 bytes, a byte a step, and coefficient i is the table's value of nibble i. -/
def Obligations.CbdSamplesThirtyTwoBytes : Prop :=
  ∀ (d : Reg) (s : State) (bs rest : List Byte), bs.length = 32 → s.FIFO = bs ++ rest → s.decoded = true → s.script = [] →
    decode (encodeFields 0x21 d 0 0) = .ok (.cbd1 d) ∧ decode (encodeFields 0x22 d 0 0) = .ok (.cbd2 d) ∧
    (FreshStream (.cbd1 d) s → ∃ t, Sys2Proof.core.run 32 s = .next t ∧
      StreamFinished d (fun j => cbd1Table (streamNibble bs j.val)) rest s t) ∧
    (FreshStream (.cbd2 d) s → ∃ t, Sys2Proof.core.run 32 s = .next t ∧
      StreamFinished d (fun j => cbd2Table (streamNibble bs j.val)) rest s t)

/-- R203: SAMPU is a function of its stream, however its byte steps and the host's pushes interleave. Unless a push was dropped
(SOVF), it has popped p bytes of the stream; when it has completed, there is the least m with 64 of the chunks 0..m below q,
p is ceil(13(m+1)/8) and PR[D] is those chunks in order; while it has not, fewer than 64 of the chunks it has had are below q,
and it stops short of the stream's end only while the engine has not had its steps. -/
def Obligations.SampuIsAFunctionOfItsStream : Prop :=
  ∀ (d : Reg) (s : State) (k : Nat), FreshStream (.sampu d) s → FeedingSchedule s.script →
    ∃ t, Sys2Proof.core.run (s.script.length + k) s = .next t ∧ SamePolysBut d s t ∧ t.S = s.S ∧ t.BUF = s.BUF ∧
      t.bufOrigin = s.bufOrigin ∧
      (t.sovf = false → ∃ p : Nat, p ≤ (comingStream s).length ∧ t.FIFO = (comingStream s).drop p ∧
        ((t.busy = true ∧ t.done = s.done ∧ (acceptedChunks (comingStream s) (8 * p / 13)).length < 64 ∧
            ((comingStream s).length < k → p = (comingStream s).length)) ∨
          (t.busy = false ∧ t.done = true ∧ ∃ m : Nat, p = (13 * (m + 1) + 7) / 8 ∧
            (acceptedChunks (comingStream s) (m + 1)).length = 64 ∧ (acceptedChunks (comingStream s) m).length < 64 ∧
            ∀ j : Lane, ((t.PR.get d).get j).val.toNat = (acceptedChunks (comingStream s) (m + 1)).getD j.val 0 ∧
              ((t.PR.get d).get j).origin = .written)))

/-! ### Codec commands -/

/-- R234: CMP10. (BUF in canonical form is the invariant StepKeepsStorage.) -/
def Obligations.Cmp10PacksTenBits : Prop :=
  ∀ a : Reg, decode (encodeFields 0x28 0 a 0) = .ok (.cmp10 a) ∧
    ∀ s : State, Memory.wf s.BUF → ∃ t, exec (.cmp10 a) s = .next t ∧
      WritesBytes 80 (fun k =>
        packedNumber 10 (fun i => (1024 * coefNat s a i + 3840) / 7681 % 1024) / 2 ^ (8 * k)) s t

/-- R235: DEC10. -/
def Obligations.Dec10UnpacksTenBits : Prop :=
  ∀ d : Reg, decode (encodeFields 0x29 d 0 0) = .ok (.dec10 d) ∧
    ∀ s : State, ∃ t, exec (.dec10 d) s = .next t ∧
      WritesPoly d (fun j => (((7681 * bufferField 80 10 s j.val + 512) / 1024 : Nat) : Int)) s t

/-- R236: CMP3. -/
def Obligations.Cmp3PacksThreeBits : Prop :=
  ∀ a : Reg, decode (encodeFields 0x2A 0 a 0) = .ok (.cmp3 a) ∧
    ∀ s : State, Memory.wf s.BUF → ∃ t, exec (.cmp3 a) s = .next t ∧
      WritesBytes 24 (fun k => packedNumber 3 (fun i => (8 * coefNat s a i + 3840) / 7681 % 8) / 2 ^ (8 * k)) s t

/-- R237: DEC3. -/
def Obligations.Dec3UnpacksThreeBits : Prop :=
  ∀ d : Reg, decode (encodeFields 0x2B d 0 0) = .ok (.dec3 d) ∧
    ∀ s : State, ∃ t, exec (.dec3 d) s = .next t ∧
      WritesPoly d (fun j => (((7681 * bufferField 24 3 s j.val + 4) / 8 : Nat) : Int)) s t

/-- R238: SER13. -/
def Obligations.Ser13PacksThirteenBits : Prop :=
  ∀ a : Reg, decode (encodeFields 0x2C 0 a 0) = .ok (.ser13 a) ∧
    ∀ s : State, Memory.wf s.BUF → ∃ t, exec (.ser13 a) s = .next t ∧
      WritesBytes 104 (fun k => packedNumber 13 (coefNat s a) / 2 ^ (8 * k)) s t

/-- R239: DES13, with RANGE and PR[D] unchanged exactly when an unpacked value is q or more. -/
def Obligations.Des13UnpacksThirteenBits : Prop :=
  ∀ d : Reg, decode (encodeFields 0x2D d 0 0) = .ok (.des13 d) ∧
    ∀ s : State,
      ((∃ j : Lane, 7681 ≤ bufferField 104 13 s j.val) → ∃ t, exec (.des13 d) s = .next t ∧ FailedKeeping 4 s t) ∧
      ((∀ j : Lane, bufferField 104 13 s j.val < 7681) → ∃ t, exec (.des13 d) s = .next t ∧
        WritesPoly d (fun j => (bufferField 104 13 s j.val : Int)) s t)

/-- R231: compress is exact rounding with no ties, reduced mod 2^d, and wraps to 0 near q. -/
def Obligations.CompressIsExactRounding : Prop :=
  ∀ x : Nat, x < 7681 →
    (∀ d : Nat, d = 10 ∨ d = 3 → compress d x = (2 ^ d * x + 3840) / 7681 % 2 ^ d ∧
      ((compress d x : Nat) : Int) = ⌊((2 ^ d * x : ℚ) / 7681 + 1 / 2)⌋ % 2 ^ d ∧
      ∀ k : Int, ((2 ^ d * x : ℚ) / 7681) ≠ k + 1 / 2) ∧
    (7678 ≤ x → compress 10 x = 0) ∧ (7201 ≤ x → compress 3 x = 0)

/-- R232: decompress is exact rounding with ties rounded up, the only tie is at 2^(d-1), and every result is canonical. -/
def Obligations.DecompressRoundsTiesUp : Prop :=
  ∀ d y : Nat, d = 10 ∨ d = 3 → y < 2 ^ d → decompress d y = (7681 * y + 2 ^ (d - 1)) / 2 ^ d ∧
    ((decompress d y : Nat) : Int) = ⌊((7681 * y : ℚ) / 2 ^ d + 1 / 2)⌋ ∧
    ((∃ k : Int, ((7681 * y : ℚ) / 2 ^ d) = k + 1 / 2) ↔ y = 2 ^ (d - 1)) ∧
    decompress d y ≤ decompress d (2 ^ d - 1) ∧ decompress 10 1023 = 7673 ∧ decompress 3 7 = 6721 ∧
    decompress 10 512 = 3841 ∧ decompress 3 4 = 3841

/-- R240: the compression error is at most 4 and 480 in the modular distance, with equality at the points the rule names. -/
def Obligations.CompressionErrorIsBounded : Prop :=
  (∀ x : Nat, x < 7681 → modDistance ((x : Int) - decompress 10 (compress 10 x)) ≤ 4 ∧
    modDistance ((x : Int) - decompress 3 (compress 3 x)) ≤ 480) ∧
  (∀ x : Nat, x = 4 ∨ x = 19 ∨ x = 34 → modDistance ((x : Int) - decompress 10 (compress 10 x)) = 4) ∧
  (∀ x : Nat, x = 480 ∨ x = 1440 ∨ x = 2400 → modDistance ((x : Int) - decompress 3 (compress 3 x)) = 480) ∧
  (7680 : Int) - decompress 10 (compress 10 7680) = 7680 ∧ (7680 : Int) - decompress 3 (compress 3 7680) = 7680

/-- R241: SER13 and then DES13 gives a canonical polynomial back, with no error, and DES13 and then SER13 gives an in-range byte
string back. -/
def Obligations.SerializationRoundTrips : Prop :=
  ∀ (s : State) (p r : Reg), Memory.wf s.BUF →
    ((∀ j : Lane, coefNat s p j < 7681) → ∃ t u, exec (.ser13 p) s = .next t ∧ exec (.des13 r) t = .next u ∧
      u.err = s.err ∧ u.cause = s.cause ∧ u.busy = false ∧ u.done = true ∧
      ∀ j : Lane, ((u.PR.get r).get j).val = s.coef p j) ∧
    ((∀ j : Lane, bufferField 104 13 s j.val < 7681) → ∃ t u, exec (.des13 r) s = .next t ∧ exec (.ser13 r) t = .next u ∧
      u.err = s.err ∧ u.cause = s.cause ∧ u.busy = false ∧ u.done = true ∧ ∀ k : Nat, k < 104 → u.byte k = s.byte k)

/-! ### The host port -/

/-- R64, R65: the scalar and polynomial windows when BUSY = 0: a read returns the cell, a write of a canonical word stores it,
a write of any other word is dropped with WERR; a write while BUSY = 1 is dropped with WERR. -/
def Obligations.ScalarAndPolynomialWindows : Prop :=
  ∀ (s : State) (w : Word),
    (∀ (r : Reg) (a : BitVec 12), a = atByte (0x0100 + 4 * r.val) →
      (s.busy = false → (s.readWord a).toNat = (s.scalar r).toNat ∧
        (w.toNat < 7681 → s.hostWrite a w = s.setScalar r (BitVec.ofNat 13 w.toNat)) ∧
        (7681 ≤ w.toNat → s.hostWrite a w = { s with werr := true })) ∧
      (s.busy = true → s.hostWrite a w = { s with werr := true })) ∧
    ∀ (p : Reg) (j : Lane) (a : BitVec 12), a = atByte (0x1000 + 0x100 * p.val + 4 * j.val) →
      (s.busy = false → (s.readWord a).toNat = (s.coef p j).toNat ∧
        (w.toNat < 7681 → s.hostWrite a w = s.setCoef p j.val (BitVec.ofNat 13 w.toNat)) ∧
        (7681 ≤ w.toNat → s.hostWrite a w = { s with werr := true })) ∧
      (s.busy = true → s.hostWrite a w = { s with werr := true })

/-- R66: the buffer window when BUSY = 0: word k is bytes 4k to 4k+3, little-endian, and a write stores all four and nothing
else; a write while BUSY = 1 is dropped with WERR. -/
def Obligations.BufferWindowIsLittleEndian : Prop :=
  ∀ (s : State) (w : Word) (k : Reg) (a : BitVec 12), Memory.wf s.BUF → a = atByte (0x0200 + 4 * k.val) →
    (s.busy = false →
      (s.readWord a).toNat = (s.byte (4 * k.val)).toNat + (s.byte (4 * k.val + 1)).toNat * 2 ^ 8 +
        (s.byte (4 * k.val + 2)).toNat * 2 ^ 16 + (s.byte (4 * k.val + 3)).toNat * 2 ^ 24 ∧
      ∃ t, s.hostWrite a w = t ∧
        (∀ i : Nat, i < 4 → (t.byte (4 * k.val + i)).toNat = w.toNat / 2 ^ (8 * i) % 256 ∧
          t.bufOrigin[4 * k.val + i]? = some .written) ∧
        (∀ i : Nat, i < 4 * k.val ∨ 4 * k.val + 4 ≤ i → t.byte i = s.byte i ∧ t.bufOrigin[i]? = s.bufOrigin[i]?) ∧
        t.S = s.S ∧ t.PR = s.PR ∧ t.busy = s.busy ∧ t.done = s.done ∧ SameControl s t ∧ t.FIFO = s.FIFO ∧
        SameInFlight s t ∧ t.decoded = s.decoded ∧ SameHostSide s t ∧ t.readWord a = w) ∧
    (s.busy = true → s.hostWrite a w = { s with werr := true })

/-- While BUSY = 1 a read of a data window is a free draw (20_memory.md R70), and no host write but CTRL.SRST changes S, PR, BUF
or the command in flight: the engine owns the data files while a command runs. -/
def Obligations.EngineOwnsTheDataWhileBusy : Prop :=
  ∀ s : State, s.busy = true →
    (∀ a : BitVec 12, (0x40 ≤ a.toNat ∧ a.toNat ≤ 0x5F) ∨ (0x80 ≤ a.toNat ∧ a.toNat ≤ 0x9F) ∨
        (0x400 ≤ a.toNat ∧ a.toNat ≤ 0xBFF) → s.readWord a = Config.busyReadData s.draws) ∧
    ∀ (a : BitVec 12) (w : Word), ¬ (a = atByte 0x010 ∧ w.getLsbD 0 = true) →
      ∃ t, s.hostWrite a w = t ∧ SameData s t ∧ t.busy = true ∧ SameInFlight s t ∧ t.decoded = s.decoded ∧
        t.lastCmd = s.lastCmd

/-- R67, and R68's reads: a reserved address reads 0 and ignores writes, the reserved bits of a register read 0 and ignore writes,
writes to ID and CAUSE are ignored, CTRL and STREAM_IN read 0, and no read changes the CORE. Beside them the read of CMD, which is
LASTCMD (10_state.md R30). -/
def Obligations.ReservedAddressesAndReads : Prop :=
  ∀ (s : State) (w : Word),
    (∀ a : BitVec 12, (0x007 ≤ a.toNat ∧ a.toNat ≤ 0x03F) ∨ (0x060 ≤ a.toNat ∧ a.toNat ≤ 0x07F) ∨
        (0x0A0 ≤ a.toNat ∧ a.toNat ≤ 0x3FF) ∨ 0xC00 ≤ a.toNat → s.readWord a = 0 ∧ s.hostWrite a w = s) ∧
    s.hostWrite (atByte 0x000) w = s ∧ s.hostWrite (atByte 0x00C) w = s ∧ s.readWord (atByte 0x010) = 0 ∧
    s.readWord (atByte 0x018) = 0 ∧ s.readWord (atByte 0x000) = 0x1E014001#32 ∧ s.readWord (atByte 0x004) = s.lastCmd ∧
    s.readWord (atByte 0x008) &&& 0xFFFF80C0#32 = 0 ∧ s.readWord (atByte 0x00C) &&& 0xFFFFFFF0#32 = 0 ∧
    s.readWord (atByte 0x014) &&& 0xFFFFFFFC#32 = 0 ∧
    s.hostWrite (atByte 0x008) w = s.hostWrite (atByte 0x008) (w &&& 0x36#32) ∧
    s.hostWrite (atByte 0x010) w = s.hostWrite (atByte 0x010) (w &&& 3#32) ∧
    s.hostWrite (atByte 0x014) w = s.hostWrite (atByte 0x014) (w &&& 3#32) ∧
    ∀ a : BitVec 12, s.hostRead a = { s with rdata := s.readWord a }

/-- The fields of STATUS and its write-1-to-clear (10_state.md R28, R29): each bit reads its flag, SCOUNT is the length of FIFO,
reserved bits read 0, and a write clears exactly the W1C bits that are 1 in it, CAUSE with ERR. -/
def Obligations.StatusFieldsAndClears : Prop :=
  ∀ (s : State) (w : Word), s.FIFO.length ≤ 64 →
    s.readWord (atByte 0x008) = s.statusWord ∧
    s.statusWord.toNat = s.busy.toNat + 2 * s.done.toNat + 4 * s.err.toNat + 8 * s.swait.toNat + 16 * s.werr.toNat +
      32 * s.sovf.toNat + 256 * s.FIFO.length ∧
    s.readWord (atByte 0x00C) = s.cause.setWidth 32 ∧
    ∃ t, s.hostWrite (atByte 0x008) w = t ∧ t.done = (s.done && !w.getLsbD 1) ∧ t.err = (s.err && !w.getLsbD 2) ∧
      t.cause = (if w.getLsbD 2 then 0 else s.cause) ∧ t.werr = (s.werr && !w.getLsbD 4) ∧
      t.sovf = (s.sovf && !w.getLsbD 5) ∧ t.busy = s.busy ∧ t.FIFO = s.FIFO ∧ t.lastCmd = s.lastCmd ∧ t.doneIE = s.doneIE ∧
      t.errIE = s.errIE ∧ SameInFlight s t ∧ t.decoded = s.decoded ∧ SameHostSide s t ∧ SameData s t

/-- R34: STREAM_IN takes four bytes, the low one first, when SCOUNT is at most 60; otherwise the whole write is dropped and SOVF
is set; BUSY does not matter. -/
def Obligations.StreamInAppendsFourBytes : Prop :=
  ∀ (s : State) (w : Word),
    s.readWord (atByte 0x018) = 0 ∧
    (s.FIFO.length ≤ 60 → s.hostWrite (atByte 0x018) w =
      { s with FIFO := s.FIFO ++ [BitVec.ofNat 8 w.toNat, BitVec.ofNat 8 (w.toNat / 2 ^ 8), BitVec.ofNat 8 (w.toNat / 2 ^ 16),
        BitVec.ofNat 8 (w.toNat / 2 ^ 24)] }) ∧
    (60 < s.FIFO.length → s.hostWrite (atByte 0x018) w = { s with sovf := true })

/-- R32's flush and its order: with bit 0 of a CTRL write clear, bit 1 empties FIFO when BUSY = 0 and sets WERR when BUSY = 1, and
a write with both clear does nothing; with bit 0 set it is the soft reset, whatever bit 1 is; CTRL reads 0. -/
def Obligations.CtrlFlushAndReset : Prop :=
  ∀ (s : State) (w : Word),
    s.readWord (atByte 0x010) = 0 ∧
    (w.getLsbD 0 = true → s.hostWrite (atByte 0x010) w = s.softReset) ∧
    (w.getLsbD 0 = false → w.getLsbD 1 = true →
      (s.busy = false → s.hostWrite (atByte 0x010) w = { s with FIFO := [] }) ∧
      (s.busy = true → s.hostWrite (atByte 0x010) w = { s with werr := true })) ∧
    (w.getLsbD 0 = false → w.getLsbD 1 = false → s.hostWrite (atByte 0x010) w = s)

/-- R33, R35, R38: INTEN keeps two bits, reads them back and is 0 at reset; the interrupt line; and SWAIT. -/
def Obligations.InterruptEnableAndDerivedFlags : Prop :=
  State.reset.readWord (atByte 0x014) = 0 ∧ ∀ (s : State) (w : Word),
    (s.hostWrite (atByte 0x014) w).readWord (atByte 0x014) = w &&& 3#32 ∧
    s.hostWrite (atByte 0x014) w = { s with doneIE := w.getLsbD 0, errIE := w.getLsbD 1 } ∧
    (s.irq = true ↔ (s.done = true ∧ s.doneIE = true) ∨ (s.err = true ∧ s.errIE = true)) ∧
    (s.swait = true ↔ s.busy = true ∧ s.FIFO = [] ∧
      ∃ d : Reg, decode s.cur = .ok (.sampu d) ∨ decode s.cur = .ok (.cbd1 d) ∨ decode s.cur = .ok (.cbd2 d))

/-! ### Reset -/

/-- R40, R300: after a hardware reset, at any time, every control and status item has its reset value, no command is in flight,
and every cell of S, PR and BUF is unwritten; State.reset is such a state. -/
def Obligations.HardwareReset : Prop :=
  ControlAtReset State.reset ∧ DataUnwritten State.reset ∧
    ∀ s : State, s.nextEvent = .hardReset → ∃ t, step s = .next t ∧ ControlAtReset t ∧ DataUnwritten t

/-- R301, R302: a soft reset, at any time, sets every item of R40 but S, PR and BUF; these keep their contents, but for the cells
that the command in flight, if there is one, could write, which become unwritten. -/
def Obligations.SoftResetAbortsTheCommand : Prop :=
  ∀ (s : State) (w : Word), w.getLsbD 0 = true → ∃ t, s.hostWrite (atByte 0x010) w = t ∧ ControlAtReset t ∧ t.BUF = s.BUF ∧
    ((s.busy = false ∨ ∃ e, decode s.cur = .error e) → t.S = s.S ∧ t.PR = s.PR ∧ t.bufOrigin = s.bufOrigin) ∧
    ∀ i : Instr, s.busy = true → decode s.cur = .ok i →
      (∀ r : Reg, if scalarDestination i = some r then (t.S.get r).origin = .lost else t.S.get r = s.S.get r) ∧
      (∀ p : Reg, if polyDestination i = some p then ∀ j : Lane, ((t.PR.get p).get j).origin = .lost
        else t.PR.get p = s.PR.get p) ∧
      ∀ k : Nat, k < 128 → t.bufOrigin[k]? = if k < bufferRegion i then some .lost else s.bufOrigin[k]?

/-! ### Invariants and whole-machine rules -/

/-- The invariants hold at reset. -/
def Obligations.ResetMeetsTheInvariants : Prop := State.reset.Inv

/-- R25: every value in S and PR that has been written stays in [0, q), whatever a command finds in its sources. -/
def Obligations.StepKeepsValuesCanonical : Prop := ∀ s t : State, s.Canonical → step s = .next t → t.Canonical

/-- BUF stays in canonical form with indexes below 128, and FIFO never holds more than 64 bytes. -/
def Obligations.StepKeepsStorage : Prop := ∀ s t : State, s.StorageInRange → step s = .next t → t.StorageInRange

/-- DONE is clear while a command is in flight, CUR is LASTCMD then, CAUSE names an error exactly while ERR is set, and its code
is at most 4. -/
def Obligations.StepKeepsControlConsistent : Prop :=
  ∀ s t : State, s.ControlConsistent → step s = .next t → t.ControlConsistent

/-- NB, ACC and IDX stay in the ranges of R37 and R202. -/
def Obligations.StepKeepsStreamInRange : Prop := ∀ s t : State, s.StreamInRange → step s = .next t → t.StreamInRange

/-- The machine never stops on its own: from every state in range, a step answers a next state, but for the host access that is
not one word, which is refused. -/
def Obligations.OnlyAnotherWidthStopsAStep : Prop :=
  ∀ s : State, s.StreamInRange →
    (∃ t, step s = .next t) ∨ (s.nextEvent = .otherWidth ∧ step s = .refused .accessWidth)

/-- A command whose sources have all been written has the same effect whatever the free values are: it does not depend on the
counter of draws. -/
def Obligations.WrittenSourcesMakeNoDraw : Prop :=
  ∀ (i : Instr) (s : State) (n : Nat), sourcesWritten s i = true →
    exec i { s with draws := n } = withDraws n (exec i s)

/-- What no command touches: S by any but the scalar commands, PR by any that names no polynomial destination, BUF by any but the
packing commands, and bytes 104 to 127 of BUF by any at all (10_state.md sections 2 and 3, 44_samplers.md, 45_codec.md). -/
def Obligations.CommandsTouchOnlyTheirFiles : Prop :=
  ∀ (i : Instr) (s t : State), Memory.wf s.BUF → exec i s = .next t →
    (scalarDestination i = none → t.S = s.S) ∧ (polyDestination i = none → t.PR = s.PR) ∧
      (bufferRegion i = 0 → SameBuf s t) ∧ ∀ k : Nat, 104 ≤ k → t.byte k = s.byte k ∧ t.bufOrigin[k]? = s.bufOrigin[k]?
end

