-- ==== Sys2Proof/Laws/Memory.lean ====
section
/-! SUPPORT. BUF as a memory: a read after a write, a write leaves every other byte alone, every operation keeps the canonical
form, and two canonical contents that read alike are equal. -/

namespace Sys2Proof.Machine

/-- The entry of a byte reads as that byte, over contents that do not list it. -/
theorem Memory.read_entry (k : Nat) (v : Byte) (m : Memory) (a : Nat) (h : Memory.read m k = Memory.unlisted) :
    Memory.read (Memory.entry k v m) a = if a = k then v else Memory.read m a := by
  unfold Memory.entry
  split <;> rename_i hv
  · split
    · subst_vars; exact h
    · rfl
  · simp only [Memory.read]
    by_cases e : k = a
    · simp [e]
    · simp [e, Ne.symm e]

/-- An index below every listed one is unlisted. -/
theorem Memory.read_below (m : Memory) (a : Nat) (h : ∀ c ∈ m, a < c.1) : Memory.read m a = Memory.unlisted := by
  induction m with
  | nil => rfl
  | cons c m ih =>
    have hc := h c (by simp)
    simp only [Memory.read]
    rw [if_neg (by omega)]
    exact ih fun d hd => h d (by simp [hd])

/-- A read after a write, for contents whose indexes rise. -/
theorem Memory.read_write (m : Memory) (k : Nat) (v : Byte) (a : Nat) (h : m.Pairwise fun x y => x.1 < y.1) :
    Memory.read (Memory.write m k v) a = if a = k then v else Memory.read m a := by
  induction m with
  | nil => exact Memory.read_entry k v [] a rfl
  | cons c m ih =>
    obtain ⟨hc, hm⟩ := List.pairwise_cons.1 h
    simp only [Memory.write]
    split
    · rename_i hlt
      refine Memory.read_entry k v _ a (Memory.read_below _ _ ?_)
      intro d hd
      rcases List.mem_cons.1 hd with rfl | hd
      · exact hlt
      · exact lt_trans hlt (hc d hd)
    · split
      · rename_i _ he
        rw [Memory.read_entry k v m a (Memory.read_below _ _ (by subst he; exact hc))]
        simp only [Memory.read]
        by_cases e : a = k
        · simp [e]
        · rw [if_neg e, if_neg e, if_neg (by omega)]
      · rename_i h1 h2
        simp only [Memory.read, ih hm]
        by_cases e : a = k
        · subst e; rw [if_neg (by omega)]; simp
        · simp [e]

/-- Every index of the contents after a write is the written one or an old one. -/
theorem Memory.mem_write (m : Memory) (k : Nat) (v : Byte) (c : Host.Cell) (h : c ∈ Memory.write m k v) :
    (c = (k, v) ∧ v ≠ Memory.unlisted) ∨ c ∈ m := by
  induction m with
  | nil =>
    simp only [Memory.write, Memory.entry] at h
    split at h
    · simp at h
    · exact .inl ⟨by simpa using h, ‹_›⟩
  | cons d m ih =>
    simp only [Memory.write, Memory.entry] at h
    split at h
    · split at h
      · exact .inr h
      · rcases List.mem_cons.1 h with rfl | h
        · exact .inl ⟨rfl, ‹_›⟩
        · exact .inr h
    · split at h
      · split at h
        · exact .inr (by simp [h])
        · rcases List.mem_cons.1 h with rfl | h
          · exact .inl ⟨rfl, ‹_›⟩
          · exact .inr (by simp [h])
      · rcases List.mem_cons.1 h with rfl | h
        · exact .inr (by simp)
        · rcases ih h with h | h
          · exact .inl h
          · exact .inr (by simp [h])

/-- A write keeps the indexes rising. -/
theorem Memory.write_rising (m : Memory) (k : Nat) (v : Byte) (h : m.Pairwise fun x y => x.1 < y.1) :
    (Memory.write m k v).Pairwise fun x y => x.1 < y.1 := by
  induction m with
  | nil =>
    simp only [Memory.write, Memory.entry]
    split <;> simp
  | cons c m ih =>
    obtain ⟨hc, hm⟩ := List.pairwise_cons.1 h
    simp only [Memory.write, Memory.entry]
    split
    · rename_i hlt
      split
      · exact h
      · refine List.pairwise_cons.2 ⟨?_, h⟩
        intro d hd
        rcases List.mem_cons.1 hd with rfl | hd
        · exact hlt
        · exact lt_trans hlt (hc d hd)
    · split
      · rename_i _ he
        split
        · exact hm
        · exact List.pairwise_cons.2 ⟨by subst he; exact hc, hm⟩
      · rename_i h1 h2
        refine List.pairwise_cons.2 ⟨?_, ih hm⟩
        intro d hd
        rcases Memory.mem_write m k v d hd with ⟨rfl, _⟩ | hd
        · show c.1 < k
          omega
        · exact hc d hd

/-- A write inside BUF keeps the canonical form. -/
theorem Memory.write_wf (m : Memory) (k : Nat) (v : Byte) (h : Memory.wf m) (hk : k < Config.bufBytes) :
    Memory.wf (Memory.write m k v) := by
  refine ⟨Memory.write_rising m k v h.1, ?_⟩
  intro c hc
  rcases Memory.mem_write m k v c hc with ⟨rfl, hv⟩ | hc
  · exact ⟨hk, hv⟩
  · exact h.2 c hc

/-- A store inside BUF keeps the canonical form. -/
theorem Memory.store_wf (bs : List Byte) (m : Memory) (k : Nat) (h : Memory.wf m) (hk : k + bs.length ≤ Config.bufBytes) :
    Memory.wf (Memory.store m k bs) := by
  induction bs generalizing m k with
  | nil => exact h
  | cons b bs ih =>
    simp only [List.length_cons] at hk
    exact ih _ _ (Memory.write_wf m k b h (by omega)) (by omega)

/-- A read after a store: the stored byte inside the stored range, the old byte outside. -/
theorem Memory.read_store (bs : List Byte) (m : Memory) (k a : Nat) (h : m.Pairwise fun x y => x.1 < y.1) :
    Memory.read (Memory.store m k bs) a = if k ≤ a ∧ a < k + bs.length then bs.getD (a - k) 0 else Memory.read m a := by
  induction bs generalizing m k with
  | nil => simp [Memory.store]
  | cons b bs ih =>
    simp only [Memory.store, List.length_cons]
    rw [ih _ _ (Memory.write_rising m k b h), Memory.read_write m k b a h]
    by_cases e : a = k
    · subst e
      rw [if_neg (by omega), if_pos rfl, if_pos (by omega)]
      simp
    · by_cases hin : k + 1 ≤ a ∧ a < k + 1 + bs.length
      · rw [if_pos hin, if_pos (by omega), show a - k = (a - (k + 1)) + 1 by omega, List.getD_cons_succ]
      · rw [if_neg hin, if_neg e, if_neg (by omega)]

/-- Two canonical contents that read alike at every index are equal. -/
theorem Memory.ext_of_wf (m n : Memory) (hm : Memory.wf m) (hn : Memory.wf n) (h : ∀ a, Memory.read m a = Memory.read n a) :
    m = n := by
  induction m generalizing n with
  | nil =>
    cases n with
    | nil => rfl
    | cons d n =>
      have := h d.1
      simp only [Memory.read, if_pos] at this
      exact absurd this.symm (hn.2 d (by simp)).2
  | cons c m ih =>
    cases n with
    | nil =>
      have := h c.1
      simp only [Memory.read, if_pos] at this
      exact absurd this (hm.2 c (by simp)).2
    | cons d n =>
      obtain ⟨hc, hm'⟩ := List.pairwise_cons.1 hm.1
      obtain ⟨hd, hn'⟩ := List.pairwise_cons.1 hn.1
      have hk : c.1 = d.1 := by
        rcases lt_trichotomy c.1 d.1 with hlt | he | hgt
        · have := h c.1
          rw [Memory.read, if_pos rfl, Memory.read_below (d :: n) c.1] at this
          · exact absurd this (hm.2 c (by simp)).2
          · intro e he
            rcases List.mem_cons.1 he with rfl | he
            · exact hlt
            · exact lt_trans hlt (hd e he)
        · exact he
        · have := h d.1
          rw [Memory.read_below (c :: m) d.1, Memory.read, if_pos rfl] at this
          · exact absurd this.symm (hn.2 d (by simp)).2
          · intro e he
            rcases List.mem_cons.1 he with rfl | he
            · exact hgt
            · exact lt_trans hgt (hc e he)
      have hv : c.2 = d.2 := by
        have := h c.1
        rwa [Memory.read, if_pos rfl, Memory.read, if_pos hk.symm] at this
      have hcd : c = d := Prod.ext hk hv
      subst hcd
      congr 1
      refine ih n ⟨hm', fun e he => hm.2 e (by simp [he])⟩ ⟨hn', fun e he => hn.2 e (by simp [he])⟩ fun a => ?_
      have := h a
      simp only [Memory.read] at this
      by_cases e : c.1 = a
      · subst e
        rw [Memory.read_below m _ hc, Memory.read_below n _ hd]
      · simpa [e] using this

end Sys2Proof.Machine
end

