-- ==== Sys2Proof/Laws/Modular.lean ====
section
/-! SUPPORT. The value of each modular operation, as a number below q. -/

namespace Sys2Proof.Machine

theorem reduce_toNat (x : Int) : (reduce x).toNat = (x % 7681).toNat := by
  have h1 := Int.emod_nonneg x (show (7681 : Int) ≠ 0 by decide)
  have h2 := Int.emod_lt_of_pos x (show (0 : Int) < 7681 by decide)
  simp only [reduce, BitVec.toNat_ofNat]
  exact Nat.mod_eq_of_lt (by omega)

/-- Every result of the arithmetic is canonical (10_state.md R25, 41_scalar.md R140). -/
theorem reduce_canonical (x : Int) : (reduce x).toNat < Config.q := by
  have h1 := Int.emod_nonneg x (show (7681 : Int) ≠ 0 by decide)
  have h2 := Int.emod_lt_of_pos x (show (0 : Int) < 7681 by decide)
  rw [reduce_toNat]
  show _ < 7681
  omega

theorem reduce_natCast_toNat (n : Nat) : (reduce (n : Int)).toNat = n % Config.q := by
  rw [reduce_toNat]
  show _ = n % 7681
  omega

theorem addMod_toNat (a b : Coef) : (addMod a b).toNat = (a.toNat + b.toNat) % Config.q := by
  rw [addMod, ← Int.natCast_add, reduce_natCast_toNat]

theorem mulMod_toNat (a b : Coef) : (mulMod a b).toNat = a.toNat * b.toNat % Config.q := by
  rw [mulMod, ← Int.natCast_mul, reduce_natCast_toNat]

theorem macMod_toNat (r a b : Coef) : (macMod r a b).toNat = (r.toNat + a.toNat * b.toNat) % Config.q := by
  rw [macMod, ← Int.natCast_mul, ← Int.natCast_add, reduce_natCast_toNat]

theorem invMod_toNat (a : Coef) : (invMod a).toNat = a.toNat ^ fermatExponent % Config.q := by
  rw [invMod, reduce_natCast_toNat]

theorem subMod_toNat (a b : Coef) : (subMod a b).toNat = (((a.toNat : Int) - b.toNat) % 7681).toNat := reduce_toNat _

/-- The residue of a narrowed integer is the integer's. -/
theorem reduce_emod (x : Int) : (((reduce x).toNat : Nat) : Int) = x % 7681 := by
  rw [reduce_toNat]
  have h1 := Int.emod_nonneg x (show (7681 : Int) ≠ 0 by decide)
  omega

/-- Reading lane j of a lane-wise polynomial. -/
@[simp] theorem lanes_get (f : Lane → Coef) (j : Lane) : (lanes f).get j = f j := by
  show (lanes f)[j.val] = f j
  simp [lanes]

end Sys2Proof.Machine
end

