-- ==== Sys2Proof/Laws/State.lean ====
section
/-! SUPPORT. One lemma per field per update of the state, each true by unfolding the record update once, so that no later
proof unfolds one again. -/

namespace Sys2Proof.Machine

variable (s : State)

/-! #### setScalar -/

@[simp] theorem State.setScalar_S (r : Reg) (v : Coef) : (s.setScalar r v).S = s.S.set r.val (Cell.ofWrite v) r.isLt := rfl
@[simp] theorem State.setScalar_PR (r : Reg) (v : Coef) : (s.setScalar r v).PR = s.PR := rfl
@[simp] theorem State.setScalar_BUF (r : Reg) (v : Coef) : (s.setScalar r v).BUF = s.BUF := rfl
@[simp] theorem State.setScalar_bufOrigin (r : Reg) (v : Coef) : (s.setScalar r v).bufOrigin = s.bufOrigin := rfl
@[simp] theorem State.setScalar_FIFO (r : Reg) (v : Coef) : (s.setScalar r v).FIFO = s.FIFO := rfl
@[simp] theorem State.setScalar_busy (r : Reg) (v : Coef) : (s.setScalar r v).busy = s.busy := rfl
@[simp] theorem State.setScalar_done (r : Reg) (v : Coef) : (s.setScalar r v).done = s.done := rfl
@[simp] theorem State.setScalar_err (r : Reg) (v : Coef) : (s.setScalar r v).err = s.err := rfl
@[simp] theorem State.setScalar_werr (r : Reg) (v : Coef) : (s.setScalar r v).werr = s.werr := rfl
@[simp] theorem State.setScalar_sovf (r : Reg) (v : Coef) : (s.setScalar r v).sovf = s.sovf := rfl
@[simp] theorem State.setScalar_cause (r : Reg) (v : Coef) : (s.setScalar r v).cause = s.cause := rfl
@[simp] theorem State.setScalar_lastCmd (r : Reg) (v : Coef) : (s.setScalar r v).lastCmd = s.lastCmd := rfl
@[simp] theorem State.setScalar_doneIE (r : Reg) (v : Coef) : (s.setScalar r v).doneIE = s.doneIE := rfl
@[simp] theorem State.setScalar_errIE (r : Reg) (v : Coef) : (s.setScalar r v).errIE = s.errIE := rfl
@[simp] theorem State.setScalar_cur (r : Reg) (v : Coef) : (s.setScalar r v).cur = s.cur := rfl
@[simp] theorem State.setScalar_acc (r : Reg) (v : Coef) : (s.setScalar r v).acc = s.acc := rfl
@[simp] theorem State.setScalar_nb (r : Reg) (v : Coef) : (s.setScalar r v).nb = s.nb := rfl
@[simp] theorem State.setScalar_idx (r : Reg) (v : Coef) : (s.setScalar r v).idx = s.idx := rfl
@[simp] theorem State.setScalar_decoded (r : Reg) (v : Coef) : (s.setScalar r v).decoded = s.decoded := rfl
@[simp] theorem State.setScalar_rdata (r : Reg) (v : Coef) : (s.setScalar r v).rdata = s.rdata := rfl
@[simp] theorem State.setScalar_script (r : Reg) (v : Coef) : (s.setScalar r v).script = s.script := rfl
@[simp] theorem State.setScalar_draws (r : Reg) (v : Coef) : (s.setScalar r v).draws = s.draws := rfl

/-! #### setCoef -/

@[simp] theorem State.setCoef_S (p : Reg) (j : Nat) (v : Coef) : (s.setCoef p j v).S = s.S := rfl
@[simp] theorem State.setCoef_PR (p : Reg) (j : Nat) (v : Coef) : (s.setCoef p j v).PR = s.PR.set p.val ((s.PR.get p).setIfInBounds j (Cell.ofWrite v)) p.isLt := rfl
@[simp] theorem State.setCoef_BUF (p : Reg) (j : Nat) (v : Coef) : (s.setCoef p j v).BUF = s.BUF := rfl
@[simp] theorem State.setCoef_bufOrigin (p : Reg) (j : Nat) (v : Coef) : (s.setCoef p j v).bufOrigin = s.bufOrigin := rfl
@[simp] theorem State.setCoef_FIFO (p : Reg) (j : Nat) (v : Coef) : (s.setCoef p j v).FIFO = s.FIFO := rfl
@[simp] theorem State.setCoef_busy (p : Reg) (j : Nat) (v : Coef) : (s.setCoef p j v).busy = s.busy := rfl
@[simp] theorem State.setCoef_done (p : Reg) (j : Nat) (v : Coef) : (s.setCoef p j v).done = s.done := rfl
@[simp] theorem State.setCoef_err (p : Reg) (j : Nat) (v : Coef) : (s.setCoef p j v).err = s.err := rfl
@[simp] theorem State.setCoef_werr (p : Reg) (j : Nat) (v : Coef) : (s.setCoef p j v).werr = s.werr := rfl
@[simp] theorem State.setCoef_sovf (p : Reg) (j : Nat) (v : Coef) : (s.setCoef p j v).sovf = s.sovf := rfl
@[simp] theorem State.setCoef_cause (p : Reg) (j : Nat) (v : Coef) : (s.setCoef p j v).cause = s.cause := rfl
@[simp] theorem State.setCoef_lastCmd (p : Reg) (j : Nat) (v : Coef) : (s.setCoef p j v).lastCmd = s.lastCmd := rfl
@[simp] theorem State.setCoef_doneIE (p : Reg) (j : Nat) (v : Coef) : (s.setCoef p j v).doneIE = s.doneIE := rfl
@[simp] theorem State.setCoef_errIE (p : Reg) (j : Nat) (v : Coef) : (s.setCoef p j v).errIE = s.errIE := rfl
@[simp] theorem State.setCoef_cur (p : Reg) (j : Nat) (v : Coef) : (s.setCoef p j v).cur = s.cur := rfl
@[simp] theorem State.setCoef_acc (p : Reg) (j : Nat) (v : Coef) : (s.setCoef p j v).acc = s.acc := rfl
@[simp] theorem State.setCoef_nb (p : Reg) (j : Nat) (v : Coef) : (s.setCoef p j v).nb = s.nb := rfl
@[simp] theorem State.setCoef_idx (p : Reg) (j : Nat) (v : Coef) : (s.setCoef p j v).idx = s.idx := rfl
@[simp] theorem State.setCoef_decoded (p : Reg) (j : Nat) (v : Coef) : (s.setCoef p j v).decoded = s.decoded := rfl
@[simp] theorem State.setCoef_rdata (p : Reg) (j : Nat) (v : Coef) : (s.setCoef p j v).rdata = s.rdata := rfl
@[simp] theorem State.setCoef_script (p : Reg) (j : Nat) (v : Coef) : (s.setCoef p j v).script = s.script := rfl
@[simp] theorem State.setCoef_draws (p : Reg) (j : Nat) (v : Coef) : (s.setCoef p j v).draws = s.draws := rfl

/-! #### setPoly -/

@[simp] theorem State.setPoly_S (p : Reg) (v : Poly) : (s.setPoly p v).S = s.S := rfl
@[simp] theorem State.setPoly_PR (p : Reg) (v : Poly) : (s.setPoly p v).PR = s.PR.set p.val (Vector.ofFn fun j => Cell.ofWrite (v.get j)) p.isLt := rfl
@[simp] theorem State.setPoly_BUF (p : Reg) (v : Poly) : (s.setPoly p v).BUF = s.BUF := rfl
@[simp] theorem State.setPoly_bufOrigin (p : Reg) (v : Poly) : (s.setPoly p v).bufOrigin = s.bufOrigin := rfl
@[simp] theorem State.setPoly_FIFO (p : Reg) (v : Poly) : (s.setPoly p v).FIFO = s.FIFO := rfl
@[simp] theorem State.setPoly_busy (p : Reg) (v : Poly) : (s.setPoly p v).busy = s.busy := rfl
@[simp] theorem State.setPoly_done (p : Reg) (v : Poly) : (s.setPoly p v).done = s.done := rfl
@[simp] theorem State.setPoly_err (p : Reg) (v : Poly) : (s.setPoly p v).err = s.err := rfl
@[simp] theorem State.setPoly_werr (p : Reg) (v : Poly) : (s.setPoly p v).werr = s.werr := rfl
@[simp] theorem State.setPoly_sovf (p : Reg) (v : Poly) : (s.setPoly p v).sovf = s.sovf := rfl
@[simp] theorem State.setPoly_cause (p : Reg) (v : Poly) : (s.setPoly p v).cause = s.cause := rfl
@[simp] theorem State.setPoly_lastCmd (p : Reg) (v : Poly) : (s.setPoly p v).lastCmd = s.lastCmd := rfl
@[simp] theorem State.setPoly_doneIE (p : Reg) (v : Poly) : (s.setPoly p v).doneIE = s.doneIE := rfl
@[simp] theorem State.setPoly_errIE (p : Reg) (v : Poly) : (s.setPoly p v).errIE = s.errIE := rfl
@[simp] theorem State.setPoly_cur (p : Reg) (v : Poly) : (s.setPoly p v).cur = s.cur := rfl
@[simp] theorem State.setPoly_acc (p : Reg) (v : Poly) : (s.setPoly p v).acc = s.acc := rfl
@[simp] theorem State.setPoly_nb (p : Reg) (v : Poly) : (s.setPoly p v).nb = s.nb := rfl
@[simp] theorem State.setPoly_idx (p : Reg) (v : Poly) : (s.setPoly p v).idx = s.idx := rfl
@[simp] theorem State.setPoly_decoded (p : Reg) (v : Poly) : (s.setPoly p v).decoded = s.decoded := rfl
@[simp] theorem State.setPoly_rdata (p : Reg) (v : Poly) : (s.setPoly p v).rdata = s.rdata := rfl
@[simp] theorem State.setPoly_script (p : Reg) (v : Poly) : (s.setPoly p v).script = s.script := rfl
@[simp] theorem State.setPoly_draws (p : Reg) (v : Poly) : (s.setPoly p v).draws = s.draws := rfl

/-! #### setBytes -/

@[simp] theorem State.setBytes_S (k : Nat) (bs : List Byte) : (s.setBytes k bs).S = s.S := rfl
@[simp] theorem State.setBytes_PR (k : Nat) (bs : List Byte) : (s.setBytes k bs).PR = s.PR := rfl
@[simp] theorem State.setBytes_BUF (k : Nat) (bs : List Byte) : (s.setBytes k bs).BUF = Memory.store s.BUF k bs := rfl
@[simp] theorem State.setBytes_bufOrigin (k : Nat) (bs : List Byte) : (s.setBytes k bs).bufOrigin = markBytes s.bufOrigin k bs.length .written := rfl
@[simp] theorem State.setBytes_FIFO (k : Nat) (bs : List Byte) : (s.setBytes k bs).FIFO = s.FIFO := rfl
@[simp] theorem State.setBytes_busy (k : Nat) (bs : List Byte) : (s.setBytes k bs).busy = s.busy := rfl
@[simp] theorem State.setBytes_done (k : Nat) (bs : List Byte) : (s.setBytes k bs).done = s.done := rfl
@[simp] theorem State.setBytes_err (k : Nat) (bs : List Byte) : (s.setBytes k bs).err = s.err := rfl
@[simp] theorem State.setBytes_werr (k : Nat) (bs : List Byte) : (s.setBytes k bs).werr = s.werr := rfl
@[simp] theorem State.setBytes_sovf (k : Nat) (bs : List Byte) : (s.setBytes k bs).sovf = s.sovf := rfl
@[simp] theorem State.setBytes_cause (k : Nat) (bs : List Byte) : (s.setBytes k bs).cause = s.cause := rfl
@[simp] theorem State.setBytes_lastCmd (k : Nat) (bs : List Byte) : (s.setBytes k bs).lastCmd = s.lastCmd := rfl
@[simp] theorem State.setBytes_doneIE (k : Nat) (bs : List Byte) : (s.setBytes k bs).doneIE = s.doneIE := rfl
@[simp] theorem State.setBytes_errIE (k : Nat) (bs : List Byte) : (s.setBytes k bs).errIE = s.errIE := rfl
@[simp] theorem State.setBytes_cur (k : Nat) (bs : List Byte) : (s.setBytes k bs).cur = s.cur := rfl
@[simp] theorem State.setBytes_acc (k : Nat) (bs : List Byte) : (s.setBytes k bs).acc = s.acc := rfl
@[simp] theorem State.setBytes_nb (k : Nat) (bs : List Byte) : (s.setBytes k bs).nb = s.nb := rfl
@[simp] theorem State.setBytes_idx (k : Nat) (bs : List Byte) : (s.setBytes k bs).idx = s.idx := rfl
@[simp] theorem State.setBytes_decoded (k : Nat) (bs : List Byte) : (s.setBytes k bs).decoded = s.decoded := rfl
@[simp] theorem State.setBytes_rdata (k : Nat) (bs : List Byte) : (s.setBytes k bs).rdata = s.rdata := rfl
@[simp] theorem State.setBytes_script (k : Nat) (bs : List Byte) : (s.setBytes k bs).script = s.script := rfl
@[simp] theorem State.setBytes_draws (k : Nat) (bs : List Byte) : (s.setBytes k bs).draws = s.draws := rfl

/-! #### issue -/

@[simp] theorem State.issue_S (w : Word) : (s.issue w).S = s.S := rfl
@[simp] theorem State.issue_PR (w : Word) : (s.issue w).PR = s.PR := rfl
@[simp] theorem State.issue_BUF (w : Word) : (s.issue w).BUF = s.BUF := rfl
@[simp] theorem State.issue_bufOrigin (w : Word) : (s.issue w).bufOrigin = s.bufOrigin := rfl
@[simp] theorem State.issue_FIFO (w : Word) : (s.issue w).FIFO = s.FIFO := rfl
@[simp] theorem State.issue_busy (w : Word) : (s.issue w).busy = true := rfl
@[simp] theorem State.issue_done (w : Word) : (s.issue w).done = false := rfl
@[simp] theorem State.issue_err (w : Word) : (s.issue w).err = s.err := rfl
@[simp] theorem State.issue_werr (w : Word) : (s.issue w).werr = s.werr := rfl
@[simp] theorem State.issue_sovf (w : Word) : (s.issue w).sovf = s.sovf := rfl
@[simp] theorem State.issue_cause (w : Word) : (s.issue w).cause = s.cause := rfl
@[simp] theorem State.issue_lastCmd (w : Word) : (s.issue w).lastCmd = w := rfl
@[simp] theorem State.issue_doneIE (w : Word) : (s.issue w).doneIE = s.doneIE := rfl
@[simp] theorem State.issue_errIE (w : Word) : (s.issue w).errIE = s.errIE := rfl
@[simp] theorem State.issue_cur (w : Word) : (s.issue w).cur = w := rfl
@[simp] theorem State.issue_acc (w : Word) : (s.issue w).acc = 0 := rfl
@[simp] theorem State.issue_nb (w : Word) : (s.issue w).nb = 0 := rfl
@[simp] theorem State.issue_idx (w : Word) : (s.issue w).idx = 0 := rfl
@[simp] theorem State.issue_decoded (w : Word) : (s.issue w).decoded = false := rfl
@[simp] theorem State.issue_rdata (w : Word) : (s.issue w).rdata = s.rdata := rfl
@[simp] theorem State.issue_script (w : Word) : (s.issue w).script = s.script := rfl
@[simp] theorem State.issue_draws (w : Word) : (s.issue w).draws = s.draws := rfl

/-! #### complete -/

@[simp] theorem State.complete_S : (s.complete).S = s.S := rfl
@[simp] theorem State.complete_PR : (s.complete).PR = s.PR := rfl
@[simp] theorem State.complete_BUF : (s.complete).BUF = s.BUF := rfl
@[simp] theorem State.complete_bufOrigin : (s.complete).bufOrigin = s.bufOrigin := rfl
@[simp] theorem State.complete_FIFO : (s.complete).FIFO = s.FIFO := rfl
@[simp] theorem State.complete_busy : (s.complete).busy = false := rfl
@[simp] theorem State.complete_done : (s.complete).done = true := rfl
@[simp] theorem State.complete_err : (s.complete).err = s.err := rfl
@[simp] theorem State.complete_werr : (s.complete).werr = s.werr := rfl
@[simp] theorem State.complete_sovf : (s.complete).sovf = s.sovf := rfl
@[simp] theorem State.complete_cause : (s.complete).cause = s.cause := rfl
@[simp] theorem State.complete_lastCmd : (s.complete).lastCmd = s.lastCmd := rfl
@[simp] theorem State.complete_doneIE : (s.complete).doneIE = s.doneIE := rfl
@[simp] theorem State.complete_errIE : (s.complete).errIE = s.errIE := rfl
@[simp] theorem State.complete_cur : (s.complete).cur = s.cur := rfl
@[simp] theorem State.complete_acc : (s.complete).acc = s.acc := rfl
@[simp] theorem State.complete_nb : (s.complete).nb = s.nb := rfl
@[simp] theorem State.complete_idx : (s.complete).idx = s.idx := rfl
@[simp] theorem State.complete_decoded : (s.complete).decoded = false := rfl
@[simp] theorem State.complete_rdata : (s.complete).rdata = s.rdata := rfl
@[simp] theorem State.complete_script : (s.complete).script = s.script := rfl
@[simp] theorem State.complete_draws : (s.complete).draws = s.draws := rfl

/-! #### cmdError -/

@[simp] theorem State.cmdError_S (e : CmdError) : (s.cmdError e).S = s.S := rfl
@[simp] theorem State.cmdError_PR (e : CmdError) : (s.cmdError e).PR = s.PR := rfl
@[simp] theorem State.cmdError_BUF (e : CmdError) : (s.cmdError e).BUF = s.BUF := rfl
@[simp] theorem State.cmdError_bufOrigin (e : CmdError) : (s.cmdError e).bufOrigin = s.bufOrigin := rfl
@[simp] theorem State.cmdError_FIFO (e : CmdError) : (s.cmdError e).FIFO = s.FIFO := rfl
@[simp] theorem State.cmdError_busy (e : CmdError) : (s.cmdError e).busy = false := rfl
@[simp] theorem State.cmdError_done (e : CmdError) : (s.cmdError e).done = true := rfl
@[simp] theorem State.cmdError_err (e : CmdError) : (s.cmdError e).err = true := rfl
@[simp] theorem State.cmdError_werr (e : CmdError) : (s.cmdError e).werr = s.werr := rfl
@[simp] theorem State.cmdError_sovf (e : CmdError) : (s.cmdError e).sovf = s.sovf := rfl
@[simp] theorem State.cmdError_cause (e : CmdError) : (s.cmdError e).cause = errorCode e := rfl
@[simp] theorem State.cmdError_lastCmd (e : CmdError) : (s.cmdError e).lastCmd = s.lastCmd := rfl
@[simp] theorem State.cmdError_doneIE (e : CmdError) : (s.cmdError e).doneIE = s.doneIE := rfl
@[simp] theorem State.cmdError_errIE (e : CmdError) : (s.cmdError e).errIE = s.errIE := rfl
@[simp] theorem State.cmdError_cur (e : CmdError) : (s.cmdError e).cur = s.cur := rfl
@[simp] theorem State.cmdError_acc (e : CmdError) : (s.cmdError e).acc = s.acc := rfl
@[simp] theorem State.cmdError_nb (e : CmdError) : (s.cmdError e).nb = s.nb := rfl
@[simp] theorem State.cmdError_idx (e : CmdError) : (s.cmdError e).idx = s.idx := rfl
@[simp] theorem State.cmdError_decoded (e : CmdError) : (s.cmdError e).decoded = false := rfl
@[simp] theorem State.cmdError_rdata (e : CmdError) : (s.cmdError e).rdata = s.rdata := rfl
@[simp] theorem State.cmdError_script (e : CmdError) : (s.cmdError e).script = s.script := rfl
@[simp] theorem State.cmdError_draws (e : CmdError) : (s.cmdError e).draws = s.draws := rfl

/-! #### loseScalar -/

@[simp] theorem State.loseScalar_S (r : Reg) : (s.loseScalar r).S = s.S.set r.val (Cell.lose (s.S.get r)) r.isLt := rfl
@[simp] theorem State.loseScalar_PR (r : Reg) : (s.loseScalar r).PR = s.PR := rfl
@[simp] theorem State.loseScalar_BUF (r : Reg) : (s.loseScalar r).BUF = s.BUF := rfl
@[simp] theorem State.loseScalar_bufOrigin (r : Reg) : (s.loseScalar r).bufOrigin = s.bufOrigin := rfl
@[simp] theorem State.loseScalar_FIFO (r : Reg) : (s.loseScalar r).FIFO = s.FIFO := rfl
@[simp] theorem State.loseScalar_busy (r : Reg) : (s.loseScalar r).busy = s.busy := rfl
@[simp] theorem State.loseScalar_done (r : Reg) : (s.loseScalar r).done = s.done := rfl
@[simp] theorem State.loseScalar_err (r : Reg) : (s.loseScalar r).err = s.err := rfl
@[simp] theorem State.loseScalar_werr (r : Reg) : (s.loseScalar r).werr = s.werr := rfl
@[simp] theorem State.loseScalar_sovf (r : Reg) : (s.loseScalar r).sovf = s.sovf := rfl
@[simp] theorem State.loseScalar_cause (r : Reg) : (s.loseScalar r).cause = s.cause := rfl
@[simp] theorem State.loseScalar_lastCmd (r : Reg) : (s.loseScalar r).lastCmd = s.lastCmd := rfl
@[simp] theorem State.loseScalar_doneIE (r : Reg) : (s.loseScalar r).doneIE = s.doneIE := rfl
@[simp] theorem State.loseScalar_errIE (r : Reg) : (s.loseScalar r).errIE = s.errIE := rfl
@[simp] theorem State.loseScalar_cur (r : Reg) : (s.loseScalar r).cur = s.cur := rfl
@[simp] theorem State.loseScalar_acc (r : Reg) : (s.loseScalar r).acc = s.acc := rfl
@[simp] theorem State.loseScalar_nb (r : Reg) : (s.loseScalar r).nb = s.nb := rfl
@[simp] theorem State.loseScalar_idx (r : Reg) : (s.loseScalar r).idx = s.idx := rfl
@[simp] theorem State.loseScalar_decoded (r : Reg) : (s.loseScalar r).decoded = s.decoded := rfl
@[simp] theorem State.loseScalar_rdata (r : Reg) : (s.loseScalar r).rdata = s.rdata := rfl
@[simp] theorem State.loseScalar_script (r : Reg) : (s.loseScalar r).script = s.script := rfl
@[simp] theorem State.loseScalar_draws (r : Reg) : (s.loseScalar r).draws = s.draws := rfl

/-! #### losePoly -/

@[simp] theorem State.losePoly_S (p : Reg) : (s.losePoly p).S = s.S := rfl
@[simp] theorem State.losePoly_PR (p : Reg) : (s.losePoly p).PR = s.PR.set p.val (Vector.ofFn fun j => Cell.lose ((s.PR.get p).get j)) p.isLt := rfl
@[simp] theorem State.losePoly_BUF (p : Reg) : (s.losePoly p).BUF = s.BUF := rfl
@[simp] theorem State.losePoly_bufOrigin (p : Reg) : (s.losePoly p).bufOrigin = s.bufOrigin := rfl
@[simp] theorem State.losePoly_FIFO (p : Reg) : (s.losePoly p).FIFO = s.FIFO := rfl
@[simp] theorem State.losePoly_busy (p : Reg) : (s.losePoly p).busy = s.busy := rfl
@[simp] theorem State.losePoly_done (p : Reg) : (s.losePoly p).done = s.done := rfl
@[simp] theorem State.losePoly_err (p : Reg) : (s.losePoly p).err = s.err := rfl
@[simp] theorem State.losePoly_werr (p : Reg) : (s.losePoly p).werr = s.werr := rfl
@[simp] theorem State.losePoly_sovf (p : Reg) : (s.losePoly p).sovf = s.sovf := rfl
@[simp] theorem State.losePoly_cause (p : Reg) : (s.losePoly p).cause = s.cause := rfl
@[simp] theorem State.losePoly_lastCmd (p : Reg) : (s.losePoly p).lastCmd = s.lastCmd := rfl
@[simp] theorem State.losePoly_doneIE (p : Reg) : (s.losePoly p).doneIE = s.doneIE := rfl
@[simp] theorem State.losePoly_errIE (p : Reg) : (s.losePoly p).errIE = s.errIE := rfl
@[simp] theorem State.losePoly_cur (p : Reg) : (s.losePoly p).cur = s.cur := rfl
@[simp] theorem State.losePoly_acc (p : Reg) : (s.losePoly p).acc = s.acc := rfl
@[simp] theorem State.losePoly_nb (p : Reg) : (s.losePoly p).nb = s.nb := rfl
@[simp] theorem State.losePoly_idx (p : Reg) : (s.losePoly p).idx = s.idx := rfl
@[simp] theorem State.losePoly_decoded (p : Reg) : (s.losePoly p).decoded = s.decoded := rfl
@[simp] theorem State.losePoly_rdata (p : Reg) : (s.losePoly p).rdata = s.rdata := rfl
@[simp] theorem State.losePoly_script (p : Reg) : (s.losePoly p).script = s.script := rfl
@[simp] theorem State.losePoly_draws (p : Reg) : (s.losePoly p).draws = s.draws := rfl

/-! #### loseBytes -/

@[simp] theorem State.loseBytes_S (n : Nat) : (s.loseBytes n).S = s.S := rfl
@[simp] theorem State.loseBytes_PR (n : Nat) : (s.loseBytes n).PR = s.PR := rfl
@[simp] theorem State.loseBytes_BUF (n : Nat) : (s.loseBytes n).BUF = s.BUF := rfl
@[simp] theorem State.loseBytes_bufOrigin (n : Nat) : (s.loseBytes n).bufOrigin = markBytes s.bufOrigin 0 n .lost := rfl
@[simp] theorem State.loseBytes_FIFO (n : Nat) : (s.loseBytes n).FIFO = s.FIFO := rfl
@[simp] theorem State.loseBytes_busy (n : Nat) : (s.loseBytes n).busy = s.busy := rfl
@[simp] theorem State.loseBytes_done (n : Nat) : (s.loseBytes n).done = s.done := rfl
@[simp] theorem State.loseBytes_err (n : Nat) : (s.loseBytes n).err = s.err := rfl
@[simp] theorem State.loseBytes_werr (n : Nat) : (s.loseBytes n).werr = s.werr := rfl
@[simp] theorem State.loseBytes_sovf (n : Nat) : (s.loseBytes n).sovf = s.sovf := rfl
@[simp] theorem State.loseBytes_cause (n : Nat) : (s.loseBytes n).cause = s.cause := rfl
@[simp] theorem State.loseBytes_lastCmd (n : Nat) : (s.loseBytes n).lastCmd = s.lastCmd := rfl
@[simp] theorem State.loseBytes_doneIE (n : Nat) : (s.loseBytes n).doneIE = s.doneIE := rfl
@[simp] theorem State.loseBytes_errIE (n : Nat) : (s.loseBytes n).errIE = s.errIE := rfl
@[simp] theorem State.loseBytes_cur (n : Nat) : (s.loseBytes n).cur = s.cur := rfl
@[simp] theorem State.loseBytes_acc (n : Nat) : (s.loseBytes n).acc = s.acc := rfl
@[simp] theorem State.loseBytes_nb (n : Nat) : (s.loseBytes n).nb = s.nb := rfl
@[simp] theorem State.loseBytes_idx (n : Nat) : (s.loseBytes n).idx = s.idx := rfl
@[simp] theorem State.loseBytes_decoded (n : Nat) : (s.loseBytes n).decoded = s.decoded := rfl
@[simp] theorem State.loseBytes_rdata (n : Nat) : (s.loseBytes n).rdata = s.rdata := rfl
@[simp] theorem State.loseBytes_script (n : Nat) : (s.loseBytes n).script = s.script := rfl
@[simp] theorem State.loseBytes_draws (n : Nat) : (s.loseBytes n).draws = s.draws := rfl

/-! #### clearControl -/

@[simp] theorem State.clearControl_S : (s.clearControl).S = s.S := rfl
@[simp] theorem State.clearControl_PR : (s.clearControl).PR = s.PR := rfl
@[simp] theorem State.clearControl_BUF : (s.clearControl).BUF = s.BUF := rfl
@[simp] theorem State.clearControl_bufOrigin : (s.clearControl).bufOrigin = s.bufOrigin := rfl
@[simp] theorem State.clearControl_FIFO : (s.clearControl).FIFO = [] := rfl
@[simp] theorem State.clearControl_busy : (s.clearControl).busy = false := rfl
@[simp] theorem State.clearControl_done : (s.clearControl).done = false := rfl
@[simp] theorem State.clearControl_err : (s.clearControl).err = false := rfl
@[simp] theorem State.clearControl_werr : (s.clearControl).werr = false := rfl
@[simp] theorem State.clearControl_sovf : (s.clearControl).sovf = false := rfl
@[simp] theorem State.clearControl_cause : (s.clearControl).cause = 0 := rfl
@[simp] theorem State.clearControl_lastCmd : (s.clearControl).lastCmd = 0 := rfl
@[simp] theorem State.clearControl_doneIE : (s.clearControl).doneIE = false := rfl
@[simp] theorem State.clearControl_errIE : (s.clearControl).errIE = false := rfl
@[simp] theorem State.clearControl_cur : (s.clearControl).cur = 0 := rfl
@[simp] theorem State.clearControl_acc : (s.clearControl).acc = 0 := rfl
@[simp] theorem State.clearControl_nb : (s.clearControl).nb = 0 := rfl
@[simp] theorem State.clearControl_idx : (s.clearControl).idx = 0 := rfl
@[simp] theorem State.clearControl_decoded : (s.clearControl).decoded = false := rfl
@[simp] theorem State.clearControl_rdata : (s.clearControl).rdata = s.rdata := rfl
@[simp] theorem State.clearControl_script : (s.clearControl).script = s.script := rfl
@[simp] theorem State.clearControl_draws : (s.clearControl).draws = s.draws := rfl

/-! #### advance -/

@[simp] theorem State.advance_S : (s.advance).S = s.S := rfl
@[simp] theorem State.advance_PR : (s.advance).PR = s.PR := rfl
@[simp] theorem State.advance_BUF : (s.advance).BUF = s.BUF := rfl
@[simp] theorem State.advance_bufOrigin : (s.advance).bufOrigin = s.bufOrigin := rfl
@[simp] theorem State.advance_FIFO : (s.advance).FIFO = s.FIFO := rfl
@[simp] theorem State.advance_busy : (s.advance).busy = s.busy := rfl
@[simp] theorem State.advance_done : (s.advance).done = s.done := rfl
@[simp] theorem State.advance_err : (s.advance).err = s.err := rfl
@[simp] theorem State.advance_werr : (s.advance).werr = s.werr := rfl
@[simp] theorem State.advance_sovf : (s.advance).sovf = s.sovf := rfl
@[simp] theorem State.advance_cause : (s.advance).cause = s.cause := rfl
@[simp] theorem State.advance_lastCmd : (s.advance).lastCmd = s.lastCmd := rfl
@[simp] theorem State.advance_doneIE : (s.advance).doneIE = s.doneIE := rfl
@[simp] theorem State.advance_errIE : (s.advance).errIE = s.errIE := rfl
@[simp] theorem State.advance_cur : (s.advance).cur = s.cur := rfl
@[simp] theorem State.advance_acc : (s.advance).acc = s.acc := rfl
@[simp] theorem State.advance_nb : (s.advance).nb = s.nb := rfl
@[simp] theorem State.advance_idx : (s.advance).idx = s.idx := rfl
@[simp] theorem State.advance_decoded : (s.advance).decoded = s.decoded := rfl
@[simp] theorem State.advance_rdata : (s.advance).rdata = s.rdata := rfl
@[simp] theorem State.advance_script : (s.advance).script = s.script.tail := rfl
@[simp] theorem State.advance_draws : (s.advance).draws = s.draws + 1 := rfl

/-! #### clearFlags -/

@[simp] theorem State.clearFlags_S (w : Word) : (s.clearFlags w).S = s.S := rfl
@[simp] theorem State.clearFlags_PR (w : Word) : (s.clearFlags w).PR = s.PR := rfl
@[simp] theorem State.clearFlags_BUF (w : Word) : (s.clearFlags w).BUF = s.BUF := rfl
@[simp] theorem State.clearFlags_bufOrigin (w : Word) : (s.clearFlags w).bufOrigin = s.bufOrigin := rfl
@[simp] theorem State.clearFlags_FIFO (w : Word) : (s.clearFlags w).FIFO = s.FIFO := rfl
@[simp] theorem State.clearFlags_busy (w : Word) : (s.clearFlags w).busy = s.busy := rfl
@[simp] theorem State.clearFlags_done (w : Word) : (s.clearFlags w).done = (s.done && !w.getLsbD 1) := rfl
@[simp] theorem State.clearFlags_err (w : Word) : (s.clearFlags w).err = (s.err && !w.getLsbD 2) := rfl
@[simp] theorem State.clearFlags_werr (w : Word) : (s.clearFlags w).werr = (s.werr && !w.getLsbD 4) := rfl
@[simp] theorem State.clearFlags_sovf (w : Word) : (s.clearFlags w).sovf = (s.sovf && !w.getLsbD 5) := rfl
@[simp] theorem State.clearFlags_cause (w : Word) : (s.clearFlags w).cause = if w.getLsbD 2 then 0 else s.cause := rfl
@[simp] theorem State.clearFlags_lastCmd (w : Word) : (s.clearFlags w).lastCmd = s.lastCmd := rfl
@[simp] theorem State.clearFlags_doneIE (w : Word) : (s.clearFlags w).doneIE = s.doneIE := rfl
@[simp] theorem State.clearFlags_errIE (w : Word) : (s.clearFlags w).errIE = s.errIE := rfl
@[simp] theorem State.clearFlags_cur (w : Word) : (s.clearFlags w).cur = s.cur := rfl
@[simp] theorem State.clearFlags_acc (w : Word) : (s.clearFlags w).acc = s.acc := rfl
@[simp] theorem State.clearFlags_nb (w : Word) : (s.clearFlags w).nb = s.nb := rfl
@[simp] theorem State.clearFlags_idx (w : Word) : (s.clearFlags w).idx = s.idx := rfl
@[simp] theorem State.clearFlags_decoded (w : Word) : (s.clearFlags w).decoded = s.decoded := rfl
@[simp] theorem State.clearFlags_rdata (w : Word) : (s.clearFlags w).rdata = s.rdata := rfl
@[simp] theorem State.clearFlags_script (w : Word) : (s.clearFlags w).script = s.script := rfl
@[simp] theorem State.clearFlags_draws (w : Word) : (s.clearFlags w).draws = s.draws := rfl

/-! #### setInten -/

@[simp] theorem State.setInten_S (w : Word) : (s.setInten w).S = s.S := rfl
@[simp] theorem State.setInten_PR (w : Word) : (s.setInten w).PR = s.PR := rfl
@[simp] theorem State.setInten_BUF (w : Word) : (s.setInten w).BUF = s.BUF := rfl
@[simp] theorem State.setInten_bufOrigin (w : Word) : (s.setInten w).bufOrigin = s.bufOrigin := rfl
@[simp] theorem State.setInten_FIFO (w : Word) : (s.setInten w).FIFO = s.FIFO := rfl
@[simp] theorem State.setInten_busy (w : Word) : (s.setInten w).busy = s.busy := rfl
@[simp] theorem State.setInten_done (w : Word) : (s.setInten w).done = s.done := rfl
@[simp] theorem State.setInten_err (w : Word) : (s.setInten w).err = s.err := rfl
@[simp] theorem State.setInten_werr (w : Word) : (s.setInten w).werr = s.werr := rfl
@[simp] theorem State.setInten_sovf (w : Word) : (s.setInten w).sovf = s.sovf := rfl
@[simp] theorem State.setInten_cause (w : Word) : (s.setInten w).cause = s.cause := rfl
@[simp] theorem State.setInten_lastCmd (w : Word) : (s.setInten w).lastCmd = s.lastCmd := rfl
@[simp] theorem State.setInten_doneIE (w : Word) : (s.setInten w).doneIE = w.getLsbD 0 := rfl
@[simp] theorem State.setInten_errIE (w : Word) : (s.setInten w).errIE = w.getLsbD 1 := rfl
@[simp] theorem State.setInten_cur (w : Word) : (s.setInten w).cur = s.cur := rfl
@[simp] theorem State.setInten_acc (w : Word) : (s.setInten w).acc = s.acc := rfl
@[simp] theorem State.setInten_nb (w : Word) : (s.setInten w).nb = s.nb := rfl
@[simp] theorem State.setInten_idx (w : Word) : (s.setInten w).idx = s.idx := rfl
@[simp] theorem State.setInten_decoded (w : Word) : (s.setInten w).decoded = s.decoded := rfl
@[simp] theorem State.setInten_rdata (w : Word) : (s.setInten w).rdata = s.rdata := rfl
@[simp] theorem State.setInten_script (w : Word) : (s.setInten w).script = s.script := rfl
@[simp] theorem State.setInten_draws (w : Word) : (s.setInten w).draws = s.draws := rfl

/-! #### setWerr -/

@[simp] theorem State.setWerr_S : (s.setWerr).S = s.S := rfl
@[simp] theorem State.setWerr_PR : (s.setWerr).PR = s.PR := rfl
@[simp] theorem State.setWerr_BUF : (s.setWerr).BUF = s.BUF := rfl
@[simp] theorem State.setWerr_bufOrigin : (s.setWerr).bufOrigin = s.bufOrigin := rfl
@[simp] theorem State.setWerr_FIFO : (s.setWerr).FIFO = s.FIFO := rfl
@[simp] theorem State.setWerr_busy : (s.setWerr).busy = s.busy := rfl
@[simp] theorem State.setWerr_done : (s.setWerr).done = s.done := rfl
@[simp] theorem State.setWerr_err : (s.setWerr).err = s.err := rfl
@[simp] theorem State.setWerr_werr : (s.setWerr).werr = true := rfl
@[simp] theorem State.setWerr_sovf : (s.setWerr).sovf = s.sovf := rfl
@[simp] theorem State.setWerr_cause : (s.setWerr).cause = s.cause := rfl
@[simp] theorem State.setWerr_lastCmd : (s.setWerr).lastCmd = s.lastCmd := rfl
@[simp] theorem State.setWerr_doneIE : (s.setWerr).doneIE = s.doneIE := rfl
@[simp] theorem State.setWerr_errIE : (s.setWerr).errIE = s.errIE := rfl
@[simp] theorem State.setWerr_cur : (s.setWerr).cur = s.cur := rfl
@[simp] theorem State.setWerr_acc : (s.setWerr).acc = s.acc := rfl
@[simp] theorem State.setWerr_nb : (s.setWerr).nb = s.nb := rfl
@[simp] theorem State.setWerr_idx : (s.setWerr).idx = s.idx := rfl
@[simp] theorem State.setWerr_decoded : (s.setWerr).decoded = s.decoded := rfl
@[simp] theorem State.setWerr_rdata : (s.setWerr).rdata = s.rdata := rfl
@[simp] theorem State.setWerr_script : (s.setWerr).script = s.script := rfl
@[simp] theorem State.setWerr_draws : (s.setWerr).draws = s.draws := rfl

/-! #### hostRead -/

@[simp] theorem State.hostRead_S (a : BitVec 12) : (s.hostRead a).S = s.S := rfl
@[simp] theorem State.hostRead_PR (a : BitVec 12) : (s.hostRead a).PR = s.PR := rfl
@[simp] theorem State.hostRead_BUF (a : BitVec 12) : (s.hostRead a).BUF = s.BUF := rfl
@[simp] theorem State.hostRead_bufOrigin (a : BitVec 12) : (s.hostRead a).bufOrigin = s.bufOrigin := rfl
@[simp] theorem State.hostRead_FIFO (a : BitVec 12) : (s.hostRead a).FIFO = s.FIFO := rfl
@[simp] theorem State.hostRead_busy (a : BitVec 12) : (s.hostRead a).busy = s.busy := rfl
@[simp] theorem State.hostRead_done (a : BitVec 12) : (s.hostRead a).done = s.done := rfl
@[simp] theorem State.hostRead_err (a : BitVec 12) : (s.hostRead a).err = s.err := rfl
@[simp] theorem State.hostRead_werr (a : BitVec 12) : (s.hostRead a).werr = s.werr := rfl
@[simp] theorem State.hostRead_sovf (a : BitVec 12) : (s.hostRead a).sovf = s.sovf := rfl
@[simp] theorem State.hostRead_cause (a : BitVec 12) : (s.hostRead a).cause = s.cause := rfl
@[simp] theorem State.hostRead_lastCmd (a : BitVec 12) : (s.hostRead a).lastCmd = s.lastCmd := rfl
@[simp] theorem State.hostRead_doneIE (a : BitVec 12) : (s.hostRead a).doneIE = s.doneIE := rfl
@[simp] theorem State.hostRead_errIE (a : BitVec 12) : (s.hostRead a).errIE = s.errIE := rfl
@[simp] theorem State.hostRead_cur (a : BitVec 12) : (s.hostRead a).cur = s.cur := rfl
@[simp] theorem State.hostRead_acc (a : BitVec 12) : (s.hostRead a).acc = s.acc := rfl
@[simp] theorem State.hostRead_nb (a : BitVec 12) : (s.hostRead a).nb = s.nb := rfl
@[simp] theorem State.hostRead_idx (a : BitVec 12) : (s.hostRead a).idx = s.idx := rfl
@[simp] theorem State.hostRead_decoded (a : BitVec 12) : (s.hostRead a).decoded = s.decoded := rfl
@[simp] theorem State.hostRead_rdata (a : BitVec 12) : (s.hostRead a).rdata = s.readWord a := rfl
@[simp] theorem State.hostRead_script (a : BitVec 12) : (s.hostRead a).script = s.script := rfl
@[simp] theorem State.hostRead_draws (a : BitVec 12) : (s.hostRead a).draws = s.draws := rfl

/-! #### accumulate -/

@[simp] theorem State.accumulate_S (b : Byte) : (s.accumulate b).S = s.S := rfl
@[simp] theorem State.accumulate_PR (b : Byte) : (s.accumulate b).PR = s.PR := rfl
@[simp] theorem State.accumulate_BUF (b : Byte) : (s.accumulate b).BUF = s.BUF := rfl
@[simp] theorem State.accumulate_bufOrigin (b : Byte) : (s.accumulate b).bufOrigin = s.bufOrigin := rfl
@[simp] theorem State.accumulate_FIFO (b : Byte) : (s.accumulate b).FIFO = s.FIFO := rfl
@[simp] theorem State.accumulate_busy (b : Byte) : (s.accumulate b).busy = s.busy := rfl
@[simp] theorem State.accumulate_done (b : Byte) : (s.accumulate b).done = s.done := rfl
@[simp] theorem State.accumulate_err (b : Byte) : (s.accumulate b).err = s.err := rfl
@[simp] theorem State.accumulate_werr (b : Byte) : (s.accumulate b).werr = s.werr := rfl
@[simp] theorem State.accumulate_sovf (b : Byte) : (s.accumulate b).sovf = s.sovf := rfl
@[simp] theorem State.accumulate_cause (b : Byte) : (s.accumulate b).cause = s.cause := rfl
@[simp] theorem State.accumulate_lastCmd (b : Byte) : (s.accumulate b).lastCmd = s.lastCmd := rfl
@[simp] theorem State.accumulate_doneIE (b : Byte) : (s.accumulate b).doneIE = s.doneIE := rfl
@[simp] theorem State.accumulate_errIE (b : Byte) : (s.accumulate b).errIE = s.errIE := rfl
@[simp] theorem State.accumulate_cur (b : Byte) : (s.accumulate b).cur = s.cur := rfl
@[simp] theorem State.accumulate_acc (b : Byte) : (s.accumulate b).acc = s.acc ||| (b.zeroExtend 20 <<< s.nb) := rfl
@[simp] theorem State.accumulate_nb (b : Byte) : (s.accumulate b).nb = s.nb + 8 := rfl
@[simp] theorem State.accumulate_idx (b : Byte) : (s.accumulate b).idx = s.idx := rfl
@[simp] theorem State.accumulate_decoded (b : Byte) : (s.accumulate b).decoded = s.decoded := rfl
@[simp] theorem State.accumulate_rdata (b : Byte) : (s.accumulate b).rdata = s.rdata := rfl
@[simp] theorem State.accumulate_script (b : Byte) : (s.accumulate b).script = s.script := rfl
@[simp] theorem State.accumulate_draws (b : Byte) : (s.accumulate b).draws = s.draws := rfl

/-! #### dropChunk -/

@[simp] theorem State.dropChunk_S : (s.dropChunk).S = s.S := rfl
@[simp] theorem State.dropChunk_PR : (s.dropChunk).PR = s.PR := rfl
@[simp] theorem State.dropChunk_BUF : (s.dropChunk).BUF = s.BUF := rfl
@[simp] theorem State.dropChunk_bufOrigin : (s.dropChunk).bufOrigin = s.bufOrigin := rfl
@[simp] theorem State.dropChunk_FIFO : (s.dropChunk).FIFO = s.FIFO := rfl
@[simp] theorem State.dropChunk_busy : (s.dropChunk).busy = s.busy := rfl
@[simp] theorem State.dropChunk_done : (s.dropChunk).done = s.done := rfl
@[simp] theorem State.dropChunk_err : (s.dropChunk).err = s.err := rfl
@[simp] theorem State.dropChunk_werr : (s.dropChunk).werr = s.werr := rfl
@[simp] theorem State.dropChunk_sovf : (s.dropChunk).sovf = s.sovf := rfl
@[simp] theorem State.dropChunk_cause : (s.dropChunk).cause = s.cause := rfl
@[simp] theorem State.dropChunk_lastCmd : (s.dropChunk).lastCmd = s.lastCmd := rfl
@[simp] theorem State.dropChunk_doneIE : (s.dropChunk).doneIE = s.doneIE := rfl
@[simp] theorem State.dropChunk_errIE : (s.dropChunk).errIE = s.errIE := rfl
@[simp] theorem State.dropChunk_cur : (s.dropChunk).cur = s.cur := rfl
@[simp] theorem State.dropChunk_acc : (s.dropChunk).acc = s.acc >>> 13 := rfl
@[simp] theorem State.dropChunk_nb : (s.dropChunk).nb = s.nb - 13 := rfl
@[simp] theorem State.dropChunk_idx : (s.dropChunk).idx = s.idx := rfl
@[simp] theorem State.dropChunk_decoded : (s.dropChunk).decoded = s.decoded := rfl
@[simp] theorem State.dropChunk_rdata : (s.dropChunk).rdata = s.rdata := rfl
@[simp] theorem State.dropChunk_script : (s.dropChunk).script = s.script := rfl
@[simp] theorem State.dropChunk_draws : (s.dropChunk).draws = s.draws := rfl

end Sys2Proof.Machine
end

