-- ==== Sys2Proof/Laws/Ops.lean ====
section
/-! SUPPORT. What each shared operation over the register files and BUF does: a read after a write gives the value written, and
a write leaves every other cell alone. -/

namespace Sys2Proof.Machine

/-! ### Vectors -/

theorem vector_get_ofFn {α : Type} {n : Nat} (f : Fin n → α) (j : Fin n) : (Vector.ofFn f).get j = f j := by
  show (Vector.ofFn f)[j.val] = f j
  simp

theorem vector_get_set {α : Type} {n : Nat} (v : Vector α n) (i : Fin n) (x : α) (j : Fin n) :
    (v.set i.val x i.isLt).get j = if j = i then x else v.get j := by
  show (v.set i.val x i.isLt)[j.val] = if j = i then x else v[j.val]
  rw [Vector.getElem_set]
  simp only [Fin.ext_iff, eq_comm]

theorem vector_get_setIfInBounds {α : Type} {n : Nat} (v : Vector α n) (i : Nat) (x : α) (j : Fin n) :
    (v.setIfInBounds i x).get j = if j.val = i then x else v.get j := by
  show (v.setIfInBounds i x)[j.val] = if j.val = i then x else v[j.val]
  rw [Vector.getElem_setIfInBounds]
  simp only [eq_comm]

/-- A vector is its lanes. -/
theorem vector_ext_get {α : Type} {n : Nat} (v w : Vector α n) (h : ∀ j, v.get j = w.get j) : v = w := by
  ext i hi
  exact h ⟨i, hi⟩

/-! ### Operand reads -/

/-- Lane j of a polynomial's snapshot. -/
@[simp] theorem State.poly_get (s : State) (p : Reg) (j : Lane) : (s.poly p).get j = s.coef p j := by
  rw [State.poly, lanes_get]

/-- A scalar that no abort has left unwritten reads as its value. -/
theorem State.scalar_of_not_lost (s : State) (r : Reg) (h : (s.S.get r).origin ≠ .lost) : s.scalar r = (s.S.get r).val := by
  unfold State.scalar
  split
  · contradiction
  · rfl

/-- A coefficient that no abort has left unwritten reads as its value. -/
theorem State.coef_of_not_lost (s : State) (p : Reg) (j : Lane) (h : ((s.PR.get p).get j).origin ≠ .lost) :
    s.coef p j = ((s.PR.get p).get j).val := by
  unfold State.coef
  split
  · contradiction
  · rfl

/-! ### Register writes -/

/-- S after S[r] <- v. -/
theorem State.setScalar_get (s : State) (r : Reg) (v : Coef) (i : Reg) :
    (s.setScalar r v).S.get i = if i = r then Cell.ofWrite v else s.S.get i := vector_get_set _ _ _ _

/-- PR after PR[p][j] <- v. -/
theorem State.setCoef_get (s : State) (p : Reg) (j : Nat) (v : Coef) (i : Reg) (k : Lane) :
    ((s.setCoef p j v).PR.get i).get k =
      if i = p ∧ k.val = j then Cell.ofWrite v else (s.PR.get i).get k := by
  rw [State.setCoef_PR, vector_get_set]
  by_cases h : i = p
  · subst h
    simp [vector_get_setIfInBounds]
  · simp [h]

/-- PR after PR[p] <- v. -/
theorem State.setPoly_get (s : State) (p : Reg) (v : Poly) (i : Reg) (k : Lane) :
    ((s.setPoly p v).PR.get i).get k = if i = p then Cell.ofWrite (v.get k) else (s.PR.get i).get k := by
  rw [State.setPoly_PR, vector_get_set]
  by_cases h : i = p
  · rw [if_pos h, if_pos h, vector_get_ofFn]
  · rw [if_neg h, if_neg h]

/-- PR[i] whole, for another register. -/
theorem State.setPoly_get_ne (s : State) (p : Reg) (v : Poly) (i : Reg) (h : i ≠ p) :
    (s.setPoly p v).PR.get i = s.PR.get i := by
  rw [State.setPoly_PR, vector_get_set, if_neg h]

/-- PR[i] whole after a coefficient write to another register. -/
theorem State.setCoef_get_ne (s : State) (p : Reg) (j : Nat) (v : Coef) (i : Reg) (h : i ≠ p) :
    (s.setCoef p j v).PR.get i = s.PR.get i := by
  rw [State.setCoef_PR, vector_get_set, if_neg h]

/-- S after an abort of a scalar command. -/
theorem State.loseScalar_get (s : State) (r i : Reg) :
    (s.loseScalar r).S.get i = if i = r then Cell.lose (s.S.get r) else s.S.get i := vector_get_set _ _ _ _

/-- PR after an abort of a polynomial command. -/
theorem State.losePoly_get (s : State) (p i : Reg) (k : Lane) :
    ((s.losePoly p).PR.get i).get k = if i = p then Cell.lose ((s.PR.get i).get k) else (s.PR.get i).get k := by
  rw [State.losePoly_PR, vector_get_set]
  by_cases h : i = p
  · subst h
    rw [if_pos rfl, if_pos rfl, vector_get_ofFn]
  · rw [if_neg h, if_neg h]

/-! ### BUF -/

/-- The origins of BUF after a range is marked. -/
theorem markBytes_getElem? (o : Vector Origin 128) (k n : Nat) (mark : Origin) (i : Nat) :
    (markBytes o k n mark)[i]? = if k ≤ i ∧ i < k + n ∧ i < 128 then some mark else o[i]? := by
  unfold markBytes
  rw [Vector.getElem?_ofFn]
  by_cases hi : i < 128
  · rw [dif_pos hi]
    by_cases h : k ≤ i ∧ i < k + n
    · rw [if_pos h, if_pos ⟨h.1, h.2, hi⟩]
    · rw [if_neg h, if_neg fun hc => h ⟨hc.1, hc.2.1⟩, Vector.getElem?_eq_getElem hi]
      rfl
  · rw [dif_neg hi, if_neg fun hc => hi hc.2.2, Vector.getElem?_eq_none (Nat.le_of_not_lt hi)]

/-- BUF after a store inside its 128 bytes: the stored byte inside the range, the old byte outside. -/
theorem State.setBytes_byte (s : State) (k : Nat) (bs : List Byte) (i : Nat) (h : s.BUF.Pairwise fun x y => x.1 < y.1)
    (hk : k + bs.length ≤ 128) :
    (s.setBytes k bs).byte i = if k ≤ i ∧ i < k + bs.length then bs.getD (i - k) 0 else s.byte i := by
  unfold State.byte
  rw [State.setBytes_bufOrigin, State.setBytes_BUF, State.setBytes_draws, markBytes_getElem?, Memory.read_store bs s.BUF k i h]
  by_cases hin : k ≤ i ∧ i < k + bs.length
  · rw [if_pos (show k ≤ i ∧ i < k + bs.length ∧ i < 128 by omega), if_pos hin]
    simp [hin]
  · rw [if_neg (show ¬ (k ≤ i ∧ i < k + bs.length ∧ i < 128) by omega), if_neg hin, if_neg hin]

/-- Completion changes no operand. -/
@[simp] theorem State.complete_byte (s : State) (k : Nat) : s.complete.byte k = s.byte k := by
  simp only [State.byte, State.complete_bufOrigin, State.complete_BUF, State.complete_draws]

/-- Completion changes no operand. -/
@[simp] theorem State.complete_scalar (s : State) (r : Reg) : s.complete.scalar r = s.scalar r := by
  simp only [State.scalar, State.complete_S, State.complete_draws]

/-- Completion changes no operand. -/
@[simp] theorem State.complete_coef (s : State) (p : Reg) (j : Lane) : s.complete.coef p j = s.coef p j := by
  simp only [State.coef, State.complete_PR, State.complete_draws]

/-! ### The result shapes of the one-step commands -/

/-- A scalar command's result: S[D] and nothing else but its completion. -/
theorem scalarResult_get (f : Coef → Coef → Coef) (d a b : Reg) (s : State) (i : Reg) :
    (scalarResult f d a b s).S.get i = if i = d then Cell.ofWrite (f (s.scalar a) (s.scalar b)) else s.S.get i :=
  State.setScalar_get s d _ i

/-- A polynomial command's result: PR[D] and nothing else but its completion. -/
theorem polyResult_get (d : Reg) (v : Poly) (s : State) (i : Reg) (k : Lane) :
    ((polyResult d v s).PR.get i).get k = if i = d then Cell.ofWrite (v.get k) else (s.PR.get i).get k :=
  State.setPoly_get s d v i k

/-- A packing command's result over BUF. -/
theorem bytesResult_byte (bs : List Byte) (s : State) (i : Nat) (h : s.BUF.Pairwise fun x y => x.1 < y.1)
    (hl : bs.length ≤ 128) : (bytesResult bs s).byte i = if i < bs.length then bs.getD i 0 else s.byte i := by
  have key := State.setBytes_byte s 0 bs i h (by omega)
  rw [bytesResult, State.complete_byte, key]
  simp

/-- `pack_d` gives 8·d bytes (45_codec.md R233). -/
theorem pack_length (d : Nat) (v : List Nat) : (pack d v).length = 8 * d := by simp [pack]

/-! ### The engine -/

/-- Everything a stream command's engine step can do (40_command.md R125, 44_samplers.md R200, R201): decode and check, hold,
pop one byte, or stop at a lane that does not exist. -/
theorem streamStep_cases (n : Nat) (f : Byte → State → State) (s : State) :
    (s.decoded = false ∧ streamStep n f s = .next { s with decoded := true }) ∨
    (s.decoded = true ∧ s.FIFO = [] ∧ streamStep n f s = .next s) ∨
    (∃ b rest, s.decoded = true ∧ s.FIFO = b :: rest ∧ s.idx + n ≤ 64 ∧
      streamStep n f s = .next (f b { s with FIFO := rest })) ∨
    (∃ b rest, s.decoded = true ∧ s.FIFO = b :: rest ∧ 64 < s.idx + n ∧ streamStep n f s = .fault .noSuchLane) := by
  unfold streamStep
  cases hd : s.decoded with
  | false => exact .inl ⟨rfl, by simp⟩
  | true =>
    cases hf : s.FIFO with
    | nil => exact .inr (.inl ⟨rfl, rfl, by simp⟩)
    | cons b rest =>
      by_cases h : s.idx + n ≤ 64
      · exact .inr (.inr (.inl ⟨b, rest, rfl, rfl, h, by simp [h]⟩))
      · exact .inr (.inr (.inr ⟨b, rest, rfl, rfl, by omega, by simp [h]⟩))

/-- Everything an engine step can do: nothing, a decoding error, or a step of the command in flight. -/
theorem engineStep_cases (s : State) :
    (s.busy = false ∧ engineStep s = .next s) ∨
    (∃ e, s.busy = true ∧ decode s.cur = .error e ∧ engineStep s = .next (s.cmdError (decodeErrorCause e))) ∨
    (∃ i, s.busy = true ∧ decode s.cur = .ok i ∧ engineStep s = exec i s) := by
  unfold engineStep
  cases hb : s.busy with
  | false => exact .inl ⟨rfl, by simp⟩
  | true =>
    cases hd : decode s.cur with
    | error e => exact .inr (.inl ⟨e, rfl, rfl, by simp⟩)
    | ok i => exact .inr (.inr ⟨i, rfl, rfl, by simp⟩)

end Sys2Proof.Machine
end

