-- ==== Sys2Proof/Laws/Exec.lean ====
section
/-! SUPPORT. Everything an engine step of a command can do, said once, with every value it writes canonical. -/

namespace Sys2Proof.Machine

/-! ### Canonical results -/

/-- A forward butterfly's two lanes, and every other lane as before (43_ntt.md R182). -/
theorem forwardButterfly_get (z : Coef) (len : Nat) (a : Poly) (j : Nat) (k : Lane) :
    (forwardButterfly z len a j).get k =
      if k.val = j then addMod (laneAt a j) (mulMod z (laneAt a (j + len)))
      else if k.val = j + len then subMod (laneAt a j) (mulMod z (laneAt a (j + len))) else a.get k := by
  simp only [forwardButterfly, vector_get_setIfInBounds]

/-- After n blocks of the layer of half-length 1, the lanes below 2n are canonical. -/
theorem forwardBlocks_canonical (a : Poly) (n : Nat) (k : Lane) (h : k.val < 2 * n) :
    (((List.range n).foldl (forwardBlock 1) a).get k).toNat < Config.q := by
  induction n with
  | zero => omega
  | succ n ih =>
    rw [List.range_succ, List.foldl_append, List.foldl_cons, List.foldl_nil]
    generalize hb : (List.range n).foldl (forwardBlock 1) a = b at ih
    show ((forwardButterfly _ 1 b (2 * 1 * n + 0)).get k).toNat < Config.q
    rw [forwardButterfly_get]
    split
    · exact reduce_canonical _
    · split
      · exact reduce_canonical _
      · exact ih (by omega)

/-- NTT's value is canonical whatever the lanes were: its last layer writes every lane (10_state.md R25). -/
theorem nttPoly_canonical (a : Poly) (k : Lane) : ((nttPoly a).get k).toNat < Config.q := by
  simp only [nttPoly, List.foldl_cons, List.foldl_nil]
  exact forwardBlocks_canonical _ (64 / (2 * 1)) k k.isLt

/-- INTT's value is canonical. -/
theorem inttPoly_canonical (a : Poly) (k : Lane) : ((inttPoly a).get k).toNat < Config.q := by
  rw [inttPoly, scaleInverse, lanes_get]
  exact reduce_canonical _

/-- A decompressed field is canonical (45_codec.md R232). -/
theorem decompressPoly_canonical (d : Nat) (bs : List Byte) (k : Lane) (hd : d = 10 ∨ d = 3) :
    ((decompressPoly d bs).get k).toNat < Config.q := by
  have h := Nat.mod_lt (joinFields 8 (bs.map BitVec.toNat) / 2 ^ (d * k.val)) (show 0 < 2 ^ d from Nat.two_pow_pos d)
  rw [decompressPoly, lanes_get, BitVec.toNat_ofNat]
  simp only [unpackAt]
  generalize joinFields 8 (bs.map BitVec.toNat) / 2 ^ (d * k.val) % 2 ^ d = y at h
  rcases hd with rfl | rfl
  · show (7681 * y + 512) / 1024 % 8192 < 7681
    exact lt_of_le_of_lt (Nat.mod_le _ _) (by omega)
  · show (7681 * y + 4) / 8 % 8192 < 7681
    exact lt_of_le_of_lt (Nat.mod_le _ _) (by omega)

/-- DES13's value is canonical when no field is out of range (45_codec.md R239). -/
theorem deserializePoly_canonical (bs : List Byte) (k : Lane) (h : outOfRange bs = false) :
    ((deserializePoly bs).get k).toNat < Config.q := by
  rw [deserializePoly, lanes_get, BitVec.toNat_ofNat]
  have := List.any_eq_false.1 h k.val (List.mem_range.2 k.isLt)
  simp only [decide_eq_true_eq, Nat.not_le] at this
  exact lt_of_le_of_lt (Nat.mod_le _ _) this

/-! ### Everything a command can do -/

/-- A command's engine step is one of six: it completes, writes a canonical scalar and completes, writes a canonical polynomial
and completes, stores bytes from byte 0 of BUF up and completes, ends with an error, or takes a step of its stream. -/
theorem exec_cases (i : Instr) (s : State) :
    (i = .nop ∧ exec i s = .next s.complete) ∨
    (∃ d v, ((∃ a b, i = .sadd d a b ∨ i = .ssub d a b ∨ i = .smul d a b) ∨ ∃ a, i = .sinv d a) ∧ v.toNat < Config.q ∧
      exec i s = .next (s.setScalar d v).complete) ∨
    (∃ d v, ((∃ a b, i = .padd d a b ∨ i = .psub d a b ∨ i = .pmul d a b ∨ i = .pmac d a b) ∨
        (∃ a, i = .ntt d a ∨ i = .intt d a) ∨ i = .pzero d ∨ i = .dec10 d ∨ i = .dec3 d ∨ i = .des13 d) ∧
      (∀ k : Lane, (v.get k).toNat < Config.q) ∧ exec i s = .next (polyResult d v s)) ∨
    (∃ a bs, ((i = .cmp10 a ∧ bs.length = 80) ∨ (i = .cmp3 a ∧ bs.length = 24) ∨ (i = .ser13 a ∧ bs.length = 104)) ∧
      exec i s = .next (bytesResult bs s)) ∨
    (∃ e, ((∃ d a, i = .sinv d a) ∨ ∃ d, i = .des13 d) ∧ exec i s = .next (s.cmdError e)) ∨
    (∃ d, (i = .sampu d ∧ exec i s = streamStep 1 (sampuByte d) s) ∨
      (i = .cbd1 d ∧ exec i s = streamStep 2 (cbdByte cbd1Value d) s) ∨
      (i = .cbd2 d ∧ exec i s = streamStep 2 (cbdByte cbd2Value d) s)) := by
  cases i with
  | nop => exact .inl ⟨rfl, rfl⟩
  | sadd d a b => exact .inr (.inl ⟨d, _, .inl ⟨a, b, .inl rfl⟩, reduce_canonical _, rfl⟩)
  | ssub d a b => exact .inr (.inl ⟨d, _, .inl ⟨a, b, .inr (.inl rfl)⟩, reduce_canonical _, rfl⟩)
  | smul d a b => exact .inr (.inl ⟨d, _, .inl ⟨a, b, .inr (.inr rfl)⟩, reduce_canonical _, rfl⟩)
  | sinv d a =>
    by_cases h : s.scalar a = 0
    · exact .inr (.inr (.inr (.inr (.inl ⟨.invZero, .inl ⟨d, a, rfl⟩, if_pos h⟩))))
    · exact .inr (.inl ⟨d, _, .inr ⟨a, rfl⟩, reduce_canonical _, if_neg h⟩)
  | pzero d =>
    exact .inr (.inr (.inl ⟨d, polyZero, .inr (.inr (.inl rfl)), fun k => by rw [polyZero, lanes_get]; decide, rfl⟩))
  | padd d a b =>
    exact .inr (.inr (.inl ⟨d, polyAdd (s.poly a) (s.poly b), .inl ⟨a, b, .inl rfl⟩,
      fun k => by rw [polyAdd, lanes_get]; exact reduce_canonical _, rfl⟩))
  | psub d a b =>
    exact .inr (.inr (.inl ⟨d, polySub (s.poly a) (s.poly b), .inl ⟨a, b, .inr (.inl rfl)⟩,
      fun k => by rw [polySub, lanes_get]; exact reduce_canonical _, rfl⟩))
  | pmul d a b =>
    exact .inr (.inr (.inl ⟨d, polyMul (s.poly a) (s.poly b), .inl ⟨a, b, .inr (.inr (.inl rfl))⟩,
      fun k => by rw [polyMul, lanes_get]; exact reduce_canonical _, rfl⟩))
  | pmac d a b =>
    exact .inr (.inr (.inl ⟨d, polyMac (s.poly d) (s.poly a) (s.poly b), .inl ⟨a, b, .inr (.inr (.inr rfl))⟩,
      fun k => by rw [polyMac, lanes_get]; exact reduce_canonical _, rfl⟩))
  | ntt d a =>
    exact .inr (.inr (.inl ⟨d, nttPoly (s.poly a), .inr (.inl ⟨a, .inl rfl⟩), nttPoly_canonical _, rfl⟩))
  | intt d a =>
    exact .inr (.inr (.inl ⟨d, inttPoly (s.poly a), .inr (.inl ⟨a, .inr rfl⟩), inttPoly_canonical _, rfl⟩))
  | sampu d => exact .inr (.inr (.inr (.inr (.inr ⟨d, .inl ⟨rfl, rfl⟩⟩))))
  | cbd1 d => exact .inr (.inr (.inr (.inr (.inr ⟨d, .inr (.inl ⟨rfl, rfl⟩)⟩))))
  | cbd2 d => exact .inr (.inr (.inr (.inr (.inr ⟨d, .inr (.inr ⟨rfl, rfl⟩)⟩))))
  | cmp10 a => exact .inr (.inr (.inr (.inl ⟨a, compressPoly 10 (s.poly a), .inl ⟨rfl, pack_length _ _⟩, rfl⟩)))
  | cmp3 a => exact .inr (.inr (.inr (.inl ⟨a, compressPoly 3 (s.poly a), .inr (.inl ⟨rfl, pack_length _ _⟩), rfl⟩)))
  | ser13 a => exact .inr (.inr (.inr (.inl ⟨a, serializePoly (s.poly a), .inr (.inr ⟨rfl, pack_length _ _⟩), rfl⟩)))
  | dec10 d =>
    exact .inr (.inr (.inl ⟨d, decompressPoly 10 (s.bytes 80), .inr (.inr (.inr (.inl rfl))),
      fun k => decompressPoly_canonical 10 _ k (.inl rfl), rfl⟩))
  | dec3 d =>
    exact .inr (.inr (.inl ⟨d, decompressPoly 3 (s.bytes 24), .inr (.inr (.inr (.inr (.inl rfl)))),
      fun k => decompressPoly_canonical 3 _ k (.inr rfl), rfl⟩))
  | des13 d =>
    by_cases h : outOfRange (s.bytes 104) = true
    · exact .inr (.inr (.inr (.inr (.inl ⟨.range, .inr ⟨d, rfl⟩, if_pos h⟩))))
    · exact .inr (.inr (.inl ⟨d, deserializePoly (s.bytes 104), .inr (.inr (.inr (.inr (.inr rfl)))),
        fun k => deserializePoly_canonical _ k (by simpa using h), if_neg h⟩))

end Sys2Proof.Machine
end

