-- ==== Sys2Proof/Laws/PerInstr.lean ====
section
/-! SUPPORT. A law of the commands as syntax, one lemma a constructor: at every value of every field, the encoder's word has one
of the 21 opcodes of 30_encoding.md R95 and Z = 0 (R91); and the fields of an encoded word are the fields encoded. -/

namespace Sys2Proof

/-- The number an encoded word holds. -/
theorem encodeFields_toNat (op : Nat) (d a b : Reg) (h : op < 64) :
    (encodeFields op d a b).toNat = op * 2 ^ 26 + d.val * 2 ^ 21 + a.val * 2 ^ 16 + b.val * 2 ^ 11 := by
  have hd := d.isLt
  have ha := a.isLt
  have hb := b.isLt
  simp only [encodeFields, BitVec.toNat_ofNat]
  omega

theorem opField_encodeFields (op : Nat) (d a b : Reg) (h : op < 64) : opField (encodeFields op d a b) = op := by
  have hd := d.isLt
  have ha := a.isLt
  have hb := b.isLt
  simp only [opField, field, encodeFields_toNat op d a b h]
  omega

theorem dField_encodeFields (op : Nat) (d a b : Reg) (h : op < 64) : dField (encodeFields op d a b) = d := by
  have hd := d.isLt
  have ha := a.isLt
  have hb := b.isLt
  simp only [dField, regField, encodeFields_toNat op d a b h, Fin.ext_iff]
  omega

theorem aField_encodeFields (op : Nat) (d a b : Reg) (h : op < 64) : aField (encodeFields op d a b) = a := by
  have hd := d.isLt
  have ha := a.isLt
  have hb := b.isLt
  simp only [aField, regField, encodeFields_toNat op d a b h, Fin.ext_iff]
  omega

theorem bField_encodeFields (op : Nat) (d a b : Reg) (h : op < 64) : bField (encodeFields op d a b) = b := by
  have hd := d.isLt
  have ha := a.isLt
  have hb := b.isLt
  simp only [bField, regField, encodeFields_toNat op d a b h, Fin.ext_iff]
  omega

theorem zField_encodeFields (op : Nat) (d a b : Reg) (h : op < 64) : zField (encodeFields op d a b) = 0 := by
  have hd := d.isLt
  have ha := a.isLt
  have hb := b.isLt
  simp only [zField, field, encodeFields_toNat op d a b h]
  omega

end Sys2Proof

namespace Sys2Proof.Laws.WordShape

/-- The command's word has an opcode of R95 and Z = 0. -/
def Statement (i : Instr) : Prop :=
  zField (encode i) = 0 ∧
    opField (encode i) ∈
      [0x00, 0x01, 0x02, 0x03, 0x04, 0x10, 0x11, 0x12, 0x13, 0x14, 0x18, 0x19, 0x20, 0x21, 0x22, 0x28, 0x29, 0x2A, 0x2B,
        0x2C, 0x2D]

/-- The shape of an encoded word. -/
theorem of_fields (op : Nat) (d a b : Reg) (h : op < 64) (ops : List Nat) (hop : op ∈ ops) :
    zField (encodeFields op d a b) = 0 ∧ opField (encodeFields op d a b) ∈ ops :=
  ⟨zField_encodeFields op d a b h, by rw [opField_encodeFields op d a b h]; exact hop⟩

theorem nop : Statement .nop := of_fields 0x00 _ _ _ (by decide) _ (by decide)

theorem sadd (d a b : Reg) : Statement (.sadd d a b) := of_fields 0x01 _ _ _ (by decide) _ (by decide)

theorem ssub (d a b : Reg) : Statement (.ssub d a b) := of_fields 0x02 _ _ _ (by decide) _ (by decide)

theorem smul (d a b : Reg) : Statement (.smul d a b) := of_fields 0x03 _ _ _ (by decide) _ (by decide)

theorem sinv (d a : Reg) : Statement (.sinv d a) := of_fields 0x04 _ _ _ (by decide) _ (by decide)

theorem pzero (d : Reg) : Statement (.pzero d) := of_fields 0x10 _ _ _ (by decide) _ (by decide)

theorem padd (d a b : Reg) : Statement (.padd d a b) := of_fields 0x11 _ _ _ (by decide) _ (by decide)

theorem psub (d a b : Reg) : Statement (.psub d a b) := of_fields 0x12 _ _ _ (by decide) _ (by decide)

theorem pmul (d a b : Reg) : Statement (.pmul d a b) := of_fields 0x13 _ _ _ (by decide) _ (by decide)

theorem pmac (d a b : Reg) : Statement (.pmac d a b) := of_fields 0x14 _ _ _ (by decide) _ (by decide)

theorem ntt (d a : Reg) : Statement (.ntt d a) := of_fields 0x18 _ _ _ (by decide) _ (by decide)

theorem intt (d a : Reg) : Statement (.intt d a) := of_fields 0x19 _ _ _ (by decide) _ (by decide)

theorem sampu (d : Reg) : Statement (.sampu d) := of_fields 0x20 _ _ _ (by decide) _ (by decide)

theorem cbd1 (d : Reg) : Statement (.cbd1 d) := of_fields 0x21 _ _ _ (by decide) _ (by decide)

theorem cbd2 (d : Reg) : Statement (.cbd2 d) := of_fields 0x22 _ _ _ (by decide) _ (by decide)

theorem cmp10 (a : Reg) : Statement (.cmp10 a) := of_fields 0x28 _ _ _ (by decide) _ (by decide)

theorem dec10 (d : Reg) : Statement (.dec10 d) := of_fields 0x29 _ _ _ (by decide) _ (by decide)

theorem cmp3 (a : Reg) : Statement (.cmp3 a) := of_fields 0x2A _ _ _ (by decide) _ (by decide)

theorem dec3 (d : Reg) : Statement (.dec3 d) := of_fields 0x2B _ _ _ (by decide) _ (by decide)

theorem ser13 (a : Reg) : Statement (.ser13 a) := of_fields 0x2C _ _ _ (by decide) _ (by decide)

theorem des13 (d : Reg) : Statement (.des13 d) := of_fields 0x2D _ _ _ (by decide) _ (by decide)

end Sys2Proof.Laws.WordShape
end

