-- ==== Sys2Proof/Laws/Step.lean ====
section
/-! SUPPORT. Everything a step can do, said once: an engine step, a host transaction, a refused access or a hardware reset, in
the state in which the schedule has moved on. -/

namespace Sys2Proof.Machine

/-- The five kinds of step. -/
theorem step_cases (s : State) :
    (s.nextEvent = .engine ∧ step s = engineStep s.advance) ∨
    (∃ a, s.nextEvent = .hostRead a ∧ step s = .next (s.advance.hostRead a)) ∨
    (∃ a w, s.nextEvent = .hostWrite a w ∧ step s = .next (s.advance.hostWrite a w)) ∨
    (s.nextEvent = .otherWidth ∧ step s = .refused .accessWidth) ∨
    (s.nextEvent = .hardReset ∧ step s = .next s.advance.hardReset) := by
  unfold step
  cases h : s.nextEvent with
  | engine => exact .inl ⟨rfl, rfl⟩
  | hostRead a => exact .inr (.inl ⟨a, rfl, rfl⟩)
  | hostWrite a w => exact .inr (.inr (.inl ⟨a, w, rfl, rfl⟩))
  | otherWidth => exact .inr (.inr (.inr (.inl ⟨rfl, rfl⟩)))
  | hardReset => exact .inr (.inr (.inr (.inr ⟨rfl, rfl⟩)))

/-- A placed command word is in flight, and the engine moves next. -/
theorem withCommand_fields (s : State) (w : Word) :
    (s.withCommand w).busy = true ∧ (s.withCommand w).cur = w ∧ (s.withCommand w).nextEvent = .engine ∧
      (s.withCommand w).advance.script = s.script := ⟨rfl, rfl, rfl, rfl⟩

/-- What holds after each write of a location holds after a host write. -/
theorem State.hostWrite_of (P : State → Prop) (s : State) (a : BitVec 12) (w : Word) (same : P s) (cmd : P (s.writeCmd w))
    (status : P (s.clearFlags w)) (ctrl : P (s.writeCtrl w)) (inten : P (s.setInten w)) (stream : P (s.pushStream w))
    (scalar : ∀ r, P (s.writeScalarWindow r w)) (buffer : ∀ k, P (s.writeBufferWindow k w))
    (coef : ∀ p j, P (s.writeCoefWindow p j w)) : P (s.hostWrite a w) := by
  unfold State.hostWrite
  cases locate a with
  | id => exact same
  | cmd => exact cmd
  | status => exact status
  | cause => exact same
  | ctrl => exact ctrl
  | inten => exact inten
  | streamIn => exact stream
  | scalar r => exact scalar r
  | buffer k => exact buffer k
  | coef p j => exact coef p j
  | reserved => exact same

/-- What holds after each way of losing a destination holds after an abort (70_reset_and_hazards.md R302). -/
theorem State.abort_of (P : State → Prop) (s : State) (same : P s) (scalar : ∀ r, P (s.loseScalar r))
    (poly : ∀ p, P (s.losePoly p)) (bytes : ∀ n, n ≤ 104 → P (s.loseBytes n)) : P s.abort := by
  unfold State.abort
  split
  · split
    · rename_i i _
      cases i
      case nop => exact same
      all_goals first | exact bytes _ (by decide) | exact scalar _ | exact poly _
    · exact same
  · exact same

end Sys2Proof.Machine
end

