-- ==== Sys2Proof/Tests/Slice0.lean ====
section
/-! SUPPORT. The model's own tests. Every expected value is a vector of spec/95_test_vectors.md, an example of the cited rule,
or a word written out bit by bit from 30_encoding.md R91 and R95; none is the model's own answer. -/

set_option Elab.async false

namespace Sys2Proof.Tests

open Sys2Proof.Machine

/-! ### Words: one of each command, bit by bit (OP_D_A_B_Z), and each check of 40_command.md R122 -/

theorem test_decode_nop : decode 0b000000_00000_00000_00000_00000000000#32 = .ok .nop := by decide
theorem test_decode_sadd : decode 0b000001_00011_00001_00010_00000000000#32 = .ok (.sadd 3 1 2) := by decide
theorem test_decode_ssub : decode 0b000010_00011_00001_00010_00000000000#32 = .ok (.ssub 3 1 2) := by decide
theorem test_decode_smul : decode 0b000011_00011_00001_00010_00000000000#32 = .ok (.smul 3 1 2) := by decide
theorem test_decode_sinv : decode 0b000100_00011_00001_00000_00000000000#32 = .ok (.sinv 3 1) := by decide
theorem test_decode_pzero : decode 0b010000_00100_00000_00000_00000000000#32 = .ok (.pzero 4) := by decide
theorem test_decode_padd : decode 0b010001_00011_00001_00010_00000000000#32 = .ok (.padd 3 1 2) := by decide
theorem test_decode_psub : decode 0b010010_00011_00001_00010_00000000000#32 = .ok (.psub 3 1 2) := by decide
theorem test_decode_pmul : decode 0b010011_00011_00001_00010_00000000000#32 = .ok (.pmul 3 1 2) := by decide
theorem test_decode_pmac : decode 0b010100_00011_00001_00010_00000000000#32 = .ok (.pmac 3 1 2) := by decide
theorem test_decode_ntt : decode 0b011000_00001_00000_00000_00000000000#32 = .ok (.ntt 1 0) := by decide
theorem test_decode_intt : decode 0b011001_00010_00001_00000_00000000000#32 = .ok (.intt 2 1) := by decide
theorem test_decode_sampu : decode 0b100000_00010_00000_00000_00000000000#32 = .ok (.sampu 2) := by decide
theorem test_decode_cbd1 : decode 0b100001_11111_00000_00000_00000000000#32 = .ok (.cbd1 31) := by decide
theorem test_decode_cbd2 : decode 0b100010_00001_00000_00000_00000000000#32 = .ok (.cbd2 1) := by decide
theorem test_decode_cmp10 : decode 0b101000_00000_00010_00000_00000000000#32 = .ok (.cmp10 2) := by decide
theorem test_decode_dec10 : decode 0b101001_00011_00000_00000_00000000000#32 = .ok (.dec10 3) := by decide
theorem test_decode_cmp3 : decode 0b101010_00000_00010_00000_00000000000#32 = .ok (.cmp3 2) := by decide
theorem test_decode_dec3 : decode 0b101011_00011_00000_00000_00000000000#32 = .ok (.dec3 3) := by decide
theorem test_decode_ser13 : decode 0b101100_00000_11111_00000_00000000000#32 = .ok (.ser13 31) := by decide
theorem test_decode_des13 : decode 0b101101_00111_00000_00000_00000000000#32 = .ok (.des13 7) := by decide

/-- V-DEC-2: a NOP word other than 0. -/
theorem test_reserved_nop : decode 0x00000001#32 = .error .reservedField := by decide

/-- V-DEC-3: OP 0x05. -/
theorem test_illegal_05 : decode 0x14000000#32 = .error .illegalOpcode := by decide

/-- V-DEC-5: ILLEGAL_OPCODE outranks RESERVED_FIELD. -/
theorem test_illegal_outranks_reserved : decode 0xFC000001#32 = .error .illegalOpcode := by decide

/-- V-DEC-6: SADD with Z[0] = 1. -/
theorem test_reserved_sadd : decode 0x04611001#32 = .error .reservedField := by decide

/-- V-DEC-7: SINV with B = 1. -/
theorem test_reserved_sinv : decode 0x10610800#32 = .error .reservedField := by decide

/-- V-DEC-8: PZERO with A = 1. -/
theorem test_reserved_pzero : decode 0x40010000#32 = .error .reservedField := by decide

/-- V-DEC-9: CMP10 with D = 1. -/
theorem test_reserved_cmp10 : decode 0xA0220000#32 = .error .reservedField := by decide

/-- An ill-formed word for each check of WellFormed.lean: an illegal opcode, and each fixed-zero field of each format. -/
theorem test_wellFormed_refuses :
    ([0x14000000#32, 0xFC000000#32, 0x00000001#32, 0x00200000#32, 0x00010000#32, 0x00000800#32, 0x04611001#32,
      0x10610800#32, 0x10610400#32, 0x40010000#32, 0x40000800#32, 0x40000001#32, 0xA0220000#32, 0xA0000800#32,
      0xA0000001#32].any wellFormedWord) = false := by decide

/-- The opcode check alone tells the two apart. -/
theorem test_legalOpcode : legalOpcode 0x14000000#32 = false ∧ legalOpcode 0x04611001#32 = true := by decide

/-- The rows' own words are well formed. -/
theorem test_wellFormed_accepts : (opcodeRows.all fun r => wellFormedWord r.pattern) = true := by decide

/-- `ntt p1, p1` of 30_encoding.md R100 and 95's P1 `pmul p4, p2, p3`. -/
theorem test_encode : encode (.ntt 1 1) = 0x60210000#32 ∧ encode (.pmul 4 2 3) = 0x4C821800#32 := by decide

/-! ### One step of a command -/

/-- A polynomial from its first coefficients, the rest 0. -/
def polyOf (l : List Nat) : Poly := lanes fun j => BitVec.ofNat 13 (l.getD j.val 0)

/-- The state after one engine step of the command word `w`. -/
def ran (s : State) (w : Nat) : Option State :=
  match step (s.withFetchWord 32 w) with
  | .next t => some t
  | _ => none

/-- The state after the engine steps of the command word `w` and `n` further ones. -/
def ranMore (s : State) (w n : Nat) : Option State :=
  match Sys2Proof.core.run n (s.withFetchWord 32 w) with
  | .next t => some t
  | _ => none

/-- S[1] and S[2] set. -/
def scalars (a b : Coef) : State := (State.reset.setScalar 1 a).setScalar 2 b

/-- PR[1] and PR[2] set. -/
def polys (a b : Poly) : State := (State.reset.setPoly 1 a).setPoly 2 b

/-- S[3] after a command on S[1] = a, S[2] = b. -/
def scalarAfter (a b : Coef) (w : Nat) : Option Nat := (ran (scalars a b) w).map fun t => (t.S.get 3).val.toNat

/-- Lanes 0 to n - 1 of PR[p] after one engine step. -/
def lanesAfter (s : State) (w : Nat) (p : Reg) (n : Nat) : Option (List Nat) :=
  (ran s w).map fun t => ((t.poly p).toList.take n).map BitVec.toNat

/-- BUF[0..n-1] after one engine step. -/
def bytesAfter (s : State) (w n : Nat) : Option (List Nat) := (ran s w).map fun t => (t.bytes n).map BitVec.toNat

/-- V-DEC-1: NOP sets DONE and nothing else. -/
theorem test_nop : (ran State.reset 0).map (fun t => t.statusWord) = some 0x02#32 := by decide

/-- V-S-1 and V-S-3. -/
theorem test_sadd : scalarAfter 1234 5678 0x04611000 = some 6912 ∧ scalarAfter 7680 7680 0x04611000 = some 7679 := by
  decide +kernel

/-- V-S-4 and V-S-5. -/
theorem test_ssub : scalarAfter 1234 5678 0x08611000 = some 3237 ∧ scalarAfter 0 1 0x08611000 = some 7680 := by
  decide +kernel

/-- V-S-7 and V-S-8. -/
theorem test_smul : scalarAfter 1234 5678 0x0C611000 = some 1580 ∧ scalarAfter 7680 7680 0x0C611000 = some 1 := by
  decide +kernel

/-- V-S-11 and V-S-14. -/
theorem test_sinv : scalarAfter 3 0 0x10610000 = some 5121 ∧ scalarAfter 202 0 0x10610000 = some 4601 := by
  decide +kernel

/-- V-S-21: the inverse of 0. -/
theorem test_sinv_zero :
    (ran (scalars 0 9) 0x10610000).map (fun t => (t.statusWord, t.causeWord)) = some (0x06#32, 3#32) := by decide +kernel

/-- V-S-22: `smul s0, s0, s0`. -/
theorem test_smul_alias :
    (ran (State.reset.setScalar 0 5) 0x0C000000).map (fun t => (t.S.get 0).val) = some 25 := by decide +kernel

/-- a and b of 95's section 2.2. -/
def rampA : Poly := lanes fun j => BitVec.ofNat 13 ((7000 + j.val) % 7681)

/-- See `rampA`. -/
def rampB : Poly := lanes fun j => BitVec.ofNat 13 (1000 * j.val % 7681)

/-- V-P-1. -/
theorem test_pzero : lanesAfter (State.reset.setPoly 4 rampA) 0x40800000 4 64 = some (List.replicate 64 0) := by
  decide +kernel

/-- V-P-2. -/
theorem test_padd : lanesAfter (polys rampA rampB) 0x44611000 3 4 = some [7000, 320, 1321, 2322] := by decide +kernel

/-- V-P-4. -/
theorem test_psub : lanesAfter (polys rampA rampB) 0x48620800 3 4 = some [681, 1680, 2679, 3678] := by decide +kernel

/-- V-P-5. -/
theorem test_pmul : lanesAfter (polys rampA rampB) 0x4C611000 3 4 = some [0, 3609, 1537, 1465] := by decide +kernel

/-- V-P-6. -/
theorem test_pmac :
    lanesAfter ((polys rampA rampB).setPoly 3 (lanes fun _ => 5)) 0x50611000 3 4 = some [5, 3614, 1542, 1470] := by
  decide +kernel

/-- V-P-8: `pmac p2, p2, p2`. -/
theorem test_pmac_alias : lanesAfter (polys rampA (polyOf [2, 7680])) 0x50421000 2 4 = some [6, 0, 0, 0] := by
  decide +kernel

/-- V-NTT-5: NTT of the ramp. -/
theorem test_ntt_ramp :
    (nttPoly (lanes fun j => BitVec.ofNat 13 j.val)).toList.map BitVec.toNat =
      [1610, 1922, 3696, 1225, 1033, 1766, 834, 5735, 1826, 1279, 6715, 5513, 3066, 4158, 6047, 4499] ++
      [6109, 4168, 2554, 3674, 4614, 1820, 1596, 4940, 796, 1030, 7338, 476, 6105, 4328, 4616, 2507] ++
      [185, 2345, 1511, 3276, 6548, 2977, 3914, 5634, 4628, 4931, 4954, 4880, 4041, 7044, 4043, 3987] ++
      [6693, 6560, 4215, 7450, 1848, 2493, 6731, 1962, 1050, 5204, 6478, 3316, 5987, 6026, 6261, 1025] := by
  decide +kernel

/-- V-NTT-11: INTT of the ramp, lanes 0 to 31. -/
theorem test_intt_ramp :
    ((inttPoly (lanes fun j => BitVec.ofNat 13 j.val)).toList.map BitVec.toNat).take 32 =
      [3872, 4985, 7183, 1488, 4101, 7249, 906, 5625, 6746, 777, 2042, 2939, 4641, 2792, 1331, 328] ++
      [4833, 6844, 5103, 5101, 6824, 3072, 1667, 918, 823, 7417, 6470, 1465, 4899, 1909, 4105, 5401] := by
  decide +kernel

/-- V-NTT-3: `ntt p1, p0` of x, lanes 0 to 3. -/
theorem test_ntt : lanesAfter (State.reset.setPoly 0 (polyOf [0, 1])) 0x60200000 1 4 = some [202, 7479, 7438, 243] := by
  decide +kernel

/-- V-NTT-6: `intt p2, p1` of all ones. -/
theorem test_intt :
    lanesAfter (State.reset.setPoly 1 (lanes fun _ => 1)) 0x64410000 2 64 = some (1 :: List.replicate 63 0) := by
  decide +kernel

/-- The byte-step trace of V-SAMP-1: ACC, NB and IDX after a byte. -/
def traced (s : State) (b : Byte) : State := sampuByte 2 b s

/-- The trace's third byte: ACC = 0x600, NB = 11, IDX = 0. -/
theorem test_sampu_trace3 :
    ([0x01#8, 0x1E#8, 0xC0#8].foldl traced State.reset).acc = 0x600#20 ∧
      ([0x01#8, 0x1E#8, 0xC0#8].foldl traced State.reset).nb = 11 := by decide +kernel

/-- The trace's fifth byte: ACC = 0x001, NB = 1, IDX = 2, chunks 7680 and 0 accepted. -/
theorem test_sampu_trace5 :
    ([0x01#8, 0x1E#8, 0xC0#8, 0x03#8, 0x80#8].foldl traced State.reset).acc = 1#20 ∧
      ([0x01#8, 0x1E#8, 0xC0#8, 0x03#8, 0x80#8].foldl traced State.reset).idx = 2 ∧
      ([0x01#8, 0x1E#8, 0xC0#8, 0x03#8, 0x80#8].foldl traced State.reset).coef 2 0 = 7680#13 := by decide +kernel

/-- P5: SAMPU on an empty FIFO is held, STATUS = 0x09. -/
theorem test_sampu_held : (ranMore State.reset 0x80400000 2).map (fun t => t.statusWord) = some 0x09#32 := by decide +kernel

/-- V-CBD-1: bytes 21 3C give lanes 0 to 3. -/
theorem test_cbd1 :
    (ranMore (State.reset.pushStream 0x5AF03C21#32) 0x87E00000 3).map
      (fun t => ((t.poly 31).toList.take 4).map BitVec.toNat) = some [1, 7680, 0, 0] := by decide +kernel

/-- V-CBD-2: the same bytes. -/
theorem test_cbd2 :
    (ranMore (State.reset.pushStream 0x5AF03C21#32) 0x88200000 3).map
      (fun t => ((t.poly 1).toList.take 4).map BitVec.toNat) = some [1, 1, 7679, 2] := by decide +kernel

/-- The nibble tables of 44_samplers.md R204 and R205, as residues. -/
theorem test_cbd_tables :
    (List.range 16).map cbd1Value = [0, 1, 7680, 0, 0, 1, 7680, 0, 0, 1, 7680, 0, 0, 1, 7680, 0] ∧
      (List.range 16).map cbd2Value = [0, 1, 1, 2, 7680, 0, 0, 1, 7680, 0, 0, 1, 7679, 7680, 7680, 0] := by decide +kernel

/-- V-CMD-1. -/
theorem test_cmp10 :
    bytesAfter (State.reset.setPoly 2 (polyOf [0, 4, 7677, 3840])) 0xA0020000 6 = some [0x00, 0x04, 0xF0, 0x3F, 0x80, 0] := by
  decide +kernel

/-- V-CMD-2. -/
theorem test_dec10 :
    lanesAfter (State.reset.setBytes 0 [0x00#8, 0x04#8, 0xF0#8, 0x3F#8, 0x80#8]) 0xA4600000 3 5 =
      some [0, 8, 7673, 3841, 0] := by decide +kernel

/-- V-CMD-4. -/
theorem test_cmp3 :
    bytesAfter (State.reset.setPoly 2 (polyOf [0, 960, 1920, 2880, 3841, 4801, 5761, 6721])) 0xA8020000 4 =
      some [0x88, 0xC6, 0xFA, 0] := by decide +kernel

/-- V-CMD-5. -/
theorem test_dec3 :
    lanesAfter (State.reset.setBytes 0 [0x88#8, 0xC6#8, 0xFA#8]) 0xAC600000 3 9 =
      some [0, 960, 1920, 2880, 3841, 4801, 5761, 6721, 0] := by decide +kernel

/-- V-PACK-3. -/
theorem test_ser13 :
    bytesAfter (State.reset.setPoly 0 (polyOf [0, 7680, 4095, 7000, 1, 2, 3, 4])) 0xB0000000 13 =
      some [0x00, 0x00, 0xC0, 0xFF, 0x3F, 0xAC, 0x1D, 0x00, 0x04, 0xC0, 0x00, 0x20, 0x00] := by decide +kernel

/-- The bytes of V-PACK-3. -/
def packed3 : List Byte :=
  [0x00, 0x00, 0xC0, 0xFF, 0x3F, 0xAC, 0x1D, 0x00, 0x04, 0xC0, 0x00, 0x20, 0x00]

/-- The bytes of V-PACK-4. -/
def packed4 : List Byte :=
  [0x00, 0x00, 0xC0, 0xFF, 0x3F, 0xAC, 0x1D, 0x00, 0x04, 0xC0, 0x00, 0xF8, 0xFF]

/-- V-CMD-7. -/
theorem test_des13 :
    lanesAfter (State.reset.setBytes 0 packed3) 0xB4200000 1 9 = some [0, 7680, 4095, 7000, 1, 2, 3, 4, 0] := by
  decide +kernel

/-- V-CMD-8: coefficient 7 is 8191, RANGE. -/
theorem test_des13_range :
    (ran (State.reset.setBytes 0 packed4) 0xB4400000).map (fun t => (t.statusWord, t.causeWord, (t.PR.get 2).get 7)) =
      some (0x06#32, 4#32, Cell.atReset) := by decide +kernel

/-- V-CODEC-2, -4, -6, -7 and the exact 3-bit boundaries. -/
theorem test_compress :
    [4, 3840, 3841, 7677, 7678].map (compress 10) = [1, 512, 512, 1023, 0] ∧
      [480, 481, 3840, 7200, 7201].map (compress 3) = [0, 1, 4, 7, 0] := by decide +kernel

/-- 95 section 2.8, decompress_10, the tie at 512 among them. -/
theorem test_decompress : [2, 511, 512, 513, 1022, 1023].map (decompress 10) = [15, 3833, 3841, 3848, 7666, 7673] := by
  decide +kernel

/-! ### The host port and the resets -/

/-- The state after the events of a schedule. -/
def after (s : State) (es : List Event) : Option State :=
  match Sys2Proof.core.run es.length { s with script := es } with
  | .next t => some t
  | _ => none

/-- V-H-1. -/
theorem test_read_id : (after State.reset [.hostRead 0]).map (fun t => t.rdata) = some 0x1E014001#32 := by decide +kernel

/-- V-H-2: word address 0x40 is byte address 0x100. -/
theorem test_scalar_window :
    (after State.reset [.hostWrite 0x40 7680#32, .hostRead 0x40]).map (fun t => (t.rdata, t.werr)) = some (7680#32, false) := by
  decide +kernel

/-- V-H-4: PR[0][1] at byte address 0x1004. -/
theorem test_coef_window_drop :
    (after State.reset [.hostWrite 0x401 0x00010000#32]).map (fun t => ((t.PR.get 0).get 1, t.werr)) =
      some (Cell.atReset, true) := by decide +kernel

/-- V-H-5. -/
theorem test_buffer_window :
    (after State.reset [.hostWrite 0x80 0xDEADBEEF#32, .hostRead 0x80]).map
      (fun t => (t.rdata, (t.bytes 4).map BitVec.toNat)) = some (0xDEADBEEF#32, [0xEF, 0xBE, 0xAD, 0xDE]) := by
  decide +kernel

/-- V-H-8: the 17th push is dropped whole. -/
theorem test_fifo_overflow :
    (after State.reset (List.replicate 17 (.hostWrite 6 0#32))).map (fun t => (t.scount, t.sovf)) = some (64, true) := by
  decide +kernel

/-- V-H-10: the DONE interrupt rises with completion and falls with the write-1-to-clear. -/
theorem test_irq :
    (after State.reset [.hostWrite 5 1#32, .hostWrite 1 0#32, .engine]).map (fun t => t.irq) = some true ∧
      (after State.reset [.hostWrite 5 1#32, .hostWrite 1 0#32, .engine, .hostWrite 2 2#32]).map (fun t => t.irq) =
        some false := by decide +kernel

/-- V-DEC-11: a command while busy is dropped. -/
theorem test_issue_busy :
    (after State.reset [.hostWrite 1 0x80400000#32, .hostWrite 1 0#32]).map (fun t => (t.werr, t.lastCmd)) =
      some (true, 0x80400000#32) := by decide +kernel

/-- V-R-2 in small: a held SAMPU ended by `srst`; PR[2] is unwritten, PR[3] keeps its cells. -/
theorem test_abort :
    (after (State.reset.setPoly 3 rampA) [.hostWrite 1 0x80400000#32, .engine, .hostWrite 4 1#32]).map
      (fun t => (t.statusWord, ((t.PR.get 2).get 63).origin, (t.PR.get 3).get 1)) =
      some (0#32, .lost, Cell.ofWrite 7001) := by decide +kernel

/-! ### Witnesses: states and operands that meet the hypotheses of each obligation, each clause at a boundary -/

/-- A command in flight, decoded, with bytes in FIFO. -/
def flying (w : Word) (fifo : List Byte) : State := { State.reset.issue w with FIFO := fifo, decoded := true }

/-- A state with a schedule. -/
def scheduled (s : State) (es : List Event) : State := { s with script := es }

/-- The greatest canonical polynomial. -/
def topPoly : Poly := lanes fun _ => 7680

theorem witness_EncodeOfDecodeIsTheWord : decode 0xB7E00000#32 = .ok (.des13 31) := by decide

theorem witness_OpcodeRowsNameTheirWords :
    ⟨"NOP", 0x00000000#32, 0xFFFFFFFF#32⟩ ∈ opcodeRows ∧ ⟨"DES13", 0xB4000000#32, 0xFC1FFFFF#32⟩ ∈ opcodeRows := by decide

theorem witness_IllegalOpcodeEndsWithCode1 :
    (∀ op ∈ [0x05, 0x0F, 0x15, 0x17, 0x1A, 0x1F, 0x23, 0x27, 0x2E, 0x3F], unusedOpcode op) ∧
      opField 0x14000000#32 = 0x05 ∧ opField 0xFFFFFFFF#32 = 0x3F ∧ State.reset.busy = false ∧
      (State.reset.issue 0x14000000#32).busy = true ∧ (State.reset.issue 0x14000000#32).cur = 0x14000000#32 := by
  unfold unusedOpcode
  decide

theorem witness_ReservedFieldEndsWithCode2 :
    (State.reset.issue 0x04611001#32).busy = true ∧ legalOpcode (State.reset.issue 0x04611001#32).cur = true ∧
      wellFormedWord (State.reset.issue 0x04611001#32).cur = false := by decide

theorem witness_StepRunsTheCommandInFlight :
    (State.reset.issue 0x04611000#32).nextEvent = .engine ∧ (State.reset.issue 0x04611000#32).busy = true ∧
      decode (State.reset.issue 0x04611000#32).cur = .ok (.sadd 3 1 2) := by decide

theorem witness_StepIsTheNextEvent :
    (scheduled State.reset [.hardReset, .engine]).script = .hardReset :: [.engine] ∧ State.reset.script = [] ∧
      ∀ e ∈ [Event.engine, .hostRead 0, .hostRead 0xFFF, .hostWrite 1 0#32, .otherWidth, .hardReset],
        (scheduled State.reset [e]).nextEvent = e := by decide

theorem witness_CommandIssue : State.reset.busy = false ∧ (State.reset.issue 0#32).busy = true := by decide

theorem witness_NopCompletes :
    opField 1#32 = 0 ∧ (1#32 : Word) ≠ 0 ∧ opField 0x03FFFFFF#32 = 0 ∧ (0x03FFFFFF#32 : Word) ≠ 0 := by decide

theorem witness_SinvWritesTheInverse :
    (scalars 0 0).scalar 1 = 0 ∧ (scalars 7680 0).scalar 1 ≠ 0 ∧ ((scalars 7680 0).scalar 1).toNat < 7681 ∧
      (1 : Nat) ≤ 7680 ∧ (7680 : Nat) < 7681 := by decide +kernel

/-- For the four statements about the transforms. -/
theorem witness_CanonicalPoly : CanonicalPoly topPoly ∧ CanonicalPoly rampB := by
  unfold CanonicalPoly
  decide +kernel

theorem witness_StreamCommandsDecodeThenHold :
    isStream (.sampu 2) = true ∧ isStream (.cbd1 2) = true ∧ isStream (.cbd2 2) = true ∧
      (State.reset.issue (encode (.sampu 2))).decoded = false ∧ (flying (encode (.sampu 2)) []).decoded = true ∧
      (flying (encode (.sampu 2)) []).FIFO = [] ∧ (flying (encode (.sampu 2)) []).busy = true ∧
      (flying (encode (.sampu 2)) []).cur = encode (.sampu 2) := by decide

/-- SAMPU with 4, 5 and 12 bits in ACC and 63 coefficients: no chunk, an accepted chunk, a rejected one. -/
theorem witness_SampuByteStep :
    (∀ s ∈ [{ flying (encode (.sampu 2)) [0xFF#8] with nb := 4, acc := 15, idx := 63 },
        { flying (encode (.sampu 2)) [0x00#8] with nb := 5, acc := 31, idx := 63 },
        { flying (encode (.sampu 2)) [0xFF#8] with nb := 12, acc := 0xFFF, idx := 63 }],
      s.decoded = true ∧ s.nb ≤ 12 ∧ s.acc.toNat < 2 ^ s.nb ∧ s.idx < 64 ∧ s.FIFO.length = 1) ∧
      (31 + 0 * 2 ^ 5) % 8192 < 7681 ∧ 7681 ≤ (0xFFF + 0xFF * 2 ^ 12) % 8192 := by decide

theorem witness_CbdByteSteps :
    ({ flying (encode (.cbd1 2)) [0x21#8, 0x3C#8] with idx := 62 } : State).decoded = true ∧
      ({ flying (encode (.cbd1 2)) [0x21#8, 0x3C#8] with idx := 62 } : State).FIFO = 0x21#8 :: [0x3C#8] ∧
      ({ flying (encode (.cbd1 2)) [0x21#8, 0x3C#8] with idx := 62 } : State).idx + 2 ≤ 64 := by decide

theorem witness_CbdSamplesThirtyTwoBytes :
    (List.replicate 32 0x5A#8).length = 32 ∧
      (flying (encode (.cbd1 2)) (List.replicate 32 0x5A#8 ++ [1#8])).FIFO = List.replicate 32 0x5A#8 ++ [1#8] ∧
      (flying (encode (.cbd1 2)) (List.replicate 32 0x5A#8 ++ [1#8])).decoded = true ∧
      (flying (encode (.cbd1 2)) (List.replicate 32 0x5A#8 ++ [1#8])).script = [] ∧
      FreshStream (.cbd1 2) (flying (encode (.cbd1 2)) (List.replicate 32 0x5A#8 ++ [1#8])) ∧
      FreshStream (.cbd2 2) (flying (encode (.cbd2 2)) (List.replicate 32 0x5A#8 ++ [1#8])) := by
  unfold FreshStream
  decide

theorem witness_SampuIsAFunctionOfItsStream :
    FreshStream (.sampu 31) (scheduled (State.reset.issue (encode (.sampu 31))) [.engine, .hostRead 2, .hostWrite 6 5#32]) ∧
      FeedingSchedule [.engine, .hostRead 2, .hostWrite 6 5#32] := by
  refine ⟨by unfold FreshStream; decide, ?_⟩
  unfold FeedingSchedule
  simp [atByte]

/-- For the packing commands. -/
theorem witness_wf : Memory.wf State.reset.BUF ∧ Memory.wf ((State.reset.setBytes 124 [1#8, 0#8, 2#8, 0xFF#8]).BUF) := by decide

/-- BUF after `setPoly` alone is all zero. -/
theorem zeroBuffer : bufferNumber 104 (State.reset.setPoly 1 topPoly) = 0 := by
  unfold bufferNumber
  decide +kernel

theorem witness_Des13UnpacksThirteenBits :
    7681 ≤ bufferField 104 13 (State.reset.setBytes 0 packed4) 7 ∧
      ∀ j : Lane, bufferField 104 13 (State.reset.setPoly 1 topPoly) j.val < 7681 := by
  refine ⟨by unfold bufferField bufferNumber; decide +kernel, fun j => ?_⟩
  unfold bufferField
  rw [zeroBuffer, Nat.zero_div, Nat.zero_mod]
  decide

theorem witness_Codec_domains :
    (7680 : Nat) < 7681 ∧ (7678 : Nat) ≤ 7680 ∧ (7201 : Nat) ≤ 7680 ∧ (1023 : Nat) < 2 ^ 10 ∧ (7 : Nat) < 2 ^ 3 := by decide

theorem witness_SerializationRoundTrips :
    Memory.wf (State.reset.setPoly 1 topPoly).BUF ∧ (∀ j : Lane, coefNat (State.reset.setPoly 1 topPoly) 1 j < 7681) ∧
      ∀ j : Lane, bufferField 104 13 (State.reset.setPoly 1 topPoly) j.val < 7681 := by
  refine ⟨by decide, ?_, witness_Des13UnpacksThirteenBits.2⟩
  unfold coefNat
  decide +kernel

theorem witness_ScalarAndPolynomialWindows :
    atByte (0x0100 + 4 * 0) = 0x40 ∧ atByte (0x0100 + 4 * 31) = 0x5F ∧ atByte (0x1000 + 0x100 * 0 + 4 * 0) = 0x400 ∧
      atByte (0x1000 + 0x100 * 31 + 4 * 63) = 0xBFF ∧ State.reset.busy = false ∧ (State.reset.issue 0#32).busy = true ∧
      (7680#32 : Word).toNat < 7681 ∧ 7681 ≤ (7681#32 : Word).toNat := by decide

theorem witness_BufferWindowIsLittleEndian :
    Memory.wf State.reset.BUF ∧ atByte (0x0200 + 4 * 0) = 0x80 ∧ atByte (0x0200 + 4 * 31) = 0x9F ∧
      State.reset.busy = false ∧ (State.reset.issue 0#32).busy = true := ⟨by decide, by decide, by decide, rfl, rfl⟩

theorem witness_EngineOwnsTheDataWhileBusy :
    (State.reset.issue 0#32).busy = true ∧
      (∀ a ∈ [0x40#12, 0x5F#12, 0x80#12, 0x9F#12, 0x400#12, 0xBFF#12], (0x40 ≤ a.toNat ∧ a.toNat ≤ 0x5F) ∨
        (0x80 ≤ a.toNat ∧ a.toNat ≤ 0x9F) ∨ (0x400 ≤ a.toNat ∧ a.toNat ≤ 0xBFF)) ∧
      ¬ (0x40#12 = atByte 0x010 ∧ (1#32 : Word).getLsbD 0 = true) ∧
      ¬ (atByte 0x010 = atByte 0x010 ∧ (2#32 : Word).getLsbD 0 = true) := by
  simp [atByte, State.issue]

theorem witness_ReservedAddressesAndReads :
    ∀ a ∈ [0x007#12, 0x03F#12, 0x060#12, 0x07F#12, 0x0A0#12, 0x3FF#12, 0xC00#12, 0xFFF#12],
      (0x007 ≤ a.toNat ∧ a.toNat ≤ 0x03F) ∨ (0x060 ≤ a.toNat ∧ a.toNat ≤ 0x07F) ∨ (0x0A0 ≤ a.toNat ∧ a.toNat ≤ 0x3FF) ∨
        0xC00 ≤ a.toNat := by simp

theorem witness_StatusFieldsAndClears : (flying 0#32 (List.replicate 64 0#8)).FIFO.length ≤ 64 := by decide

theorem witness_StreamInAppendsFourBytes :
    (flying 0#32 (List.replicate 60 0#8)).FIFO.length ≤ 60 ∧ 60 < (flying 0#32 (List.replicate 61 0#8)).FIFO.length := by decide

theorem witness_CtrlFlushAndReset :
    (3#32 : Word).getLsbD 0 = true ∧ (2#32 : Word).getLsbD 0 = false ∧ (2#32 : Word).getLsbD 1 = true ∧
      (0xFFFFFFFC#32 : Word).getLsbD 0 = false ∧ (0xFFFFFFFC#32 : Word).getLsbD 1 = false ∧ State.reset.busy = false ∧
      (State.reset.issue 0#32).busy = true := by decide

theorem witness_HardwareReset : (scheduled (flying 0#32 [1#8]) [.hardReset]).nextEvent = .hardReset := by decide

/-- No command in flight; a word that is none; and a command of each kind of destination. -/
theorem witness_SoftResetAbortsTheCommand :
    (1#32 : Word).getLsbD 0 = true ∧ State.reset.busy = false ∧
      decode (State.reset.issue 0x14000000#32).cur = .error .illegalOpcode ∧
      (∀ i ∈ [Instr.nop, .sinv 31 0, .sampu 31, .ser13 0], (State.reset.issue (encode i)).busy = true ∧
        decode (State.reset.issue (encode i)).cur = .ok i) ∧
      scalarDestination (.sinv 31 0) = some 31 ∧ polyDestination (.sampu 31) = some 31 ∧ bufferRegion (.ser13 0) = 104 := by
  decide

/-- NOP in flight. -/
def nopFlying : State := State.reset.issue 0#32

/-- For the four invariants that a step keeps. -/
theorem witness_Inv : nopFlying.Inv ∧ step nopFlying = .next { nopFlying.complete with draws := 1 } := by
  refine ⟨⟨⟨fun r h => ?_, fun p j h => ?_⟩, ?_, ?_, ?_⟩, rfl⟩
  · have e : nopFlying.S.get r = Cell.atReset := by show (Vector.replicate 32 Cell.atReset)[r.val] = _; simp
    rw [e] at h
    cases h
  · have e : (nopFlying.PR.get p).get j = Cell.atReset := by
      show ((Vector.replicate 32 (Vector.replicate 64 Cell.atReset))[p.val])[j.val] = _
      simp
    rw [e] at h
    cases h
  · unfold State.StorageInRange
    decide
  · unfold State.ControlConsistent
    decide
  · refine ⟨by decide, by decide, fun _ => ⟨by decide, fun d _ => by decide⟩, fun h => ?_⟩
    cases h

theorem witness_OnlyAnotherWidthStopsAStep :
    nopFlying.StreamInRange ∧ (scheduled nopFlying [.otherWidth]).StreamInRange ∧
      (scheduled nopFlying [.otherWidth]).nextEvent = .otherWidth :=
  ⟨witness_Inv.1.2.2.2, witness_Inv.1.2.2.2, rfl⟩

theorem witness_WrittenSourcesMakeNoDraw :
    sourcesWritten (scalars 1 2) (.sadd 3 1 2) = true ∧ sourcesWritten (polys topPoly rampB) (.pmul 3 1 2) = true := by
  decide +kernel

theorem witness_CommandsTouchOnlyTheirFiles :
    Memory.wf State.reset.BUF ∧ exec .nop State.reset = .next State.reset.complete ∧ scalarDestination .nop = none ∧
      polyDestination .nop = none ∧ bufferRegion .nop = 0 := ⟨by decide, rfl, rfl, rfl, rfl⟩

end Sys2Proof.Tests
end

section
/-! PROOFS. R25 over every step: which operations write S and PR, and that each value they write is below q. -/

namespace Sys2Proof.Machine

variable {s t : State}

/-! ### What keeps the written cells canonical -/

/-- The canonical invariant speaks of S and PR alone. -/
theorem State.Canonical.of_same (h : s.Canonical) (hS : t.S = s.S) (hPR : t.PR = s.PR) : t.Canonical := by
  rwa [State.Canonical, hS, hPR]

theorem State.Canonical.complete (h : s.Canonical) : s.complete.Canonical := h.of_same rfl rfl

theorem State.Canonical.setScalar (h : s.Canonical) (r : Reg) {v : Coef} (hv : v.toNat < Config.q) :
    (s.setScalar r v).Canonical := by
  obtain ⟨hS, hPR⟩ := h
  refine ⟨fun i => ?_, hPR⟩
  rw [State.setScalar_get]
  split
  · exact fun _ => hv
  · exact hS i

theorem State.Canonical.setCoef (h : s.Canonical) (p : Reg) (j : Nat) {v : Coef} (hv : v.toNat < Config.q) :
    (s.setCoef p j v).Canonical := by
  obtain ⟨hS, hPR⟩ := h
  refine ⟨hS, fun i k => ?_⟩
  rw [State.setCoef_get]
  split
  · exact fun _ => hv
  · exact hPR i k

theorem State.Canonical.setPoly (h : s.Canonical) (p : Reg) {v : Poly} (hv : ∀ k : Lane, (v.get k).toNat < Config.q) :
    (s.setPoly p v).Canonical := by
  obtain ⟨hS, hPR⟩ := h
  refine ⟨hS, fun i k => ?_⟩
  rw [State.setPoly_get]
  split
  · exact fun _ => hv k
  · exact hPR i k

/-- A cell that an abort loses is unwritten, so nothing is asked of its value. -/
theorem State.Canonical.loseScalar (h : s.Canonical) (r : Reg) : (s.loseScalar r).Canonical := by
  obtain ⟨hS, hPR⟩ := h
  refine ⟨fun i => ?_, hPR⟩
  rw [State.loseScalar_get]
  split
  · exact nofun
  · exact hS i

theorem State.Canonical.losePoly (h : s.Canonical) (p : Reg) : (s.losePoly p).Canonical := by
  obtain ⟨hS, hPR⟩ := h
  refine ⟨hS, fun i k => ?_⟩
  rw [State.losePoly_get]
  split
  · exact nofun
  · exact hPR i k

/-! ### The byte steps of the samplers -/

/-- Only an accepted chunk, one below q, is written (44_samplers.md R202). -/
theorem State.Canonical.offerChunk (h : s.Canonical) (d : Reg) (c : Coef) : (s.offerChunk d c).Canonical := by
  unfold State.offerChunk
  split
  · rename_i hc
    exact (h.setCoef d s.idx hc).of_same rfl rfl
  · exact h

theorem State.Canonical.takeChunk (h : s.Canonical) (d : Reg) : (s.takeChunk d).Canonical := by
  unfold State.takeChunk
  split
  · exact State.Canonical.offerChunk (s := s.dropChunk) (h.of_same rfl rfl) d _
  · exact h

theorem State.Canonical.finishSampu (h : s.Canonical) : s.finishSampu.Canonical := by
  unfold State.finishSampu
  split
  · exact h.of_same rfl rfl
  · exact h

theorem State.Canonical.sampuByte (h : s.Canonical) (d : Reg) (b : Byte) : (sampuByte d b s).Canonical :=
  (State.Canonical.takeChunk (s := s.accumulate b) (h.of_same rfl rfl) d).finishSampu

theorem State.Canonical.cbdByte (h : s.Canonical) {value : Nat → Coef} (hv : ∀ n, (value n).toNat < Config.q) (d : Reg)
    (b : Byte) : (cbdByte value d b s).Canonical := by
  have ht := (h.setCoef d s.idx (hv (nibble b 0))).setCoef d (s.idx + 1) (hv (nibble b 1))
  unfold Sys2Proof.Machine.cbdByte
  simp only
  split
  · exact ht.of_same rfl rfl
  · exact ht.of_same rfl rfl

/-- A stream command's engine step keeps the invariant when what it does with a byte keeps it. -/
theorem State.Canonical.streamStep (h : s.Canonical) {n : Nat} {f : Byte → State → State}
    (hf : ∀ b u, State.Canonical u → (f b u).Canonical) (ht : streamStep n f s = .next t) : t.Canonical := by
  obtain ⟨-, e⟩ | ⟨-, -, e⟩ | ⟨b, rest, -, -, -, e⟩ | ⟨b, rest, -, -, -, e⟩ := streamStep_cases n f s
  · cases e.symm.trans ht
    exact h.of_same rfl rfl
  · cases e.symm.trans ht
    exact h
  · cases e.symm.trans ht
    exact hf b _ (h.of_same rfl rfl)
  · cases e.symm.trans ht

/-! ### Engine steps, host writes and resets -/

/-- Every command keeps the written values canonical, whatever it finds in its sources. -/
theorem State.Canonical.exec (h : s.Canonical) {i : Instr} (ht : exec i s = .next t) : t.Canonical := by
  obtain ⟨-, e⟩ | ⟨d, v, -, hv, e⟩ | ⟨d, v, -, hv, e⟩ | ⟨a, bs, -, e⟩ | ⟨c, -, e⟩ | ⟨d, hstream⟩ :=
    exec_cases i s
  · cases e.symm.trans ht
    exact h.complete
  · cases e.symm.trans ht
    exact (h.setScalar d hv).complete
  · cases e.symm.trans ht
    exact (h.setPoly d hv).complete
  · cases e.symm.trans ht
    exact h.of_same rfl rfl
  · cases e.symm.trans ht
    exact h.of_same rfl rfl
  · obtain ⟨-, e⟩ | ⟨-, e⟩ | ⟨-, e⟩ := hstream
    · exact h.streamStep (fun b _ hu => hu.sampuByte d b) (e.symm.trans ht)
    · exact h.streamStep (fun b _ hu => hu.cbdByte (fun _ => reduce_canonical _) d b) (e.symm.trans ht)
    · exact h.streamStep (fun b _ hu => hu.cbdByte (fun _ => reduce_canonical _) d b) (e.symm.trans ht)

theorem State.Canonical.engineStep (h : s.Canonical) (ht : engineStep s = .next t) : t.Canonical := by
  obtain ⟨-, e⟩ | ⟨err, -, -, e⟩ | ⟨i, -, -, e⟩ := engineStep_cases s
  · cases e.symm.trans ht
    exact h
  · cases e.symm.trans ht
    exact h.of_same rfl rfl
  · exact h.exec (e.symm.trans ht)

theorem State.Canonical.softReset (h : s.Canonical) : s.softReset.Canonical :=
  State.Canonical.of_same (s := s.abort)
    (State.abort_of State.Canonical s h h.loseScalar h.losePoly fun _ _ => h.of_same rfl rfl) rfl rfl

/-- A word that a window write stores is below q, and so is the cell it becomes (20_memory.md R64, R65). -/
theorem setWidth_canonical {w : Word} (hw : w.toNat < Config.q) : (w.setWidth 13 : Coef).toNat < Config.q := by
  rw [BitVec.toNat_setWidth]
  exact lt_of_le_of_lt (Nat.mod_le _ _) hw

theorem State.Canonical.writeScalarWindow (h : s.Canonical) (r : Reg) (w : Word) : (s.writeScalarWindow r w).Canonical := by
  unfold State.writeScalarWindow
  split
  · exact h.of_same rfl rfl
  · split
    · rename_i hw
      exact h.setScalar r (setWidth_canonical hw)
    · exact h.of_same rfl rfl

theorem State.Canonical.writeCoefWindow (h : s.Canonical) (p : Reg) (j : Lane) (w : Word) :
    (s.writeCoefWindow p j w).Canonical := by
  unfold State.writeCoefWindow
  split
  · exact h.of_same rfl rfl
  · split
    · rename_i hw
      exact h.setCoef p j.val (setWidth_canonical hw)
    · exact h.of_same rfl rfl

theorem State.Canonical.hostWrite (h : s.Canonical) (a : BitVec 12) (w : Word) : (s.hostWrite a w).Canonical := by
  have hwerr : s.setWerr.Canonical := h.of_same rfl rfl
  apply State.hostWrite_of State.Canonical s a w
  case same => exact h
  case cmd =>
    unfold State.writeCmd
    split
    · exact hwerr
    · exact h.of_same rfl rfl
  case status => exact h.of_same rfl rfl
  case ctrl =>
    unfold State.writeCtrl State.flush
    split_ifs
    · exact h.softReset
    · exact hwerr
    · exact h.of_same rfl rfl
    · exact h
  case inten => exact h.of_same rfl rfl
  case stream =>
    unfold State.pushStream
    split
    · exact h.of_same rfl rfl
    · exact h.of_same rfl rfl
  case scalar => exact fun r => h.writeScalarWindow r w
  case buffer =>
    intro k
    unfold State.writeBufferWindow
    split
    · exact hwerr
    · exact h.of_same rfl rfl
  case coef => exact fun p j => h.writeCoefWindow p j w

/-! ### The machine of the reset table -/

theorem State.reset_S_get (r : Reg) : State.reset.S.get r = Cell.atReset := Vector.getElem_replicate r.isLt

theorem State.reset_PR_get (p : Reg) (j : Lane) : (State.reset.PR.get p).get j = Cell.atReset := by
  have hp : State.reset.PR.get p = Vector.replicate 64 Cell.atReset := Vector.getElem_replicate p.isLt
  rw [hp]
  exact Vector.getElem_replicate j.isLt

theorem State.reset_canonical : State.reset.Canonical := by
  refine ⟨fun r => ?_, fun p j => ?_⟩
  · rw [State.reset_S_get]
    exact nofun
  · rw [State.reset_PR_get]
    exact nofun

/-- Settles O54: the engine's step, the host's write and both resets each keep the invariant, and a read touches no cell. -/
theorem stepKeepsValuesCanonical : Obligations.StepKeepsValuesCanonical := by
  intro s t h ht
  have hadv : s.advance.Canonical := h.of_same rfl rfl
  obtain ⟨-, e⟩ | ⟨a, -, e⟩ | ⟨a, w, -, e⟩ | ⟨-, e⟩ | ⟨-, e⟩ := step_cases s
  · exact hadv.engineStep (e.symm.trans ht)
  · cases e.symm.trans ht
    exact hadv.of_same rfl rfl
  · cases e.symm.trans ht
    exact hadv.hostWrite a w
  · cases e.symm.trans ht
  · cases e.symm.trans ht
    exact State.reset_canonical.of_same rfl rfl

end Sys2Proof.Machine
end

section
/-! PROOFS. The control state that both resets leave, and the hardware reset at any time. -/

namespace Sys2Proof.Machine

variable (s : State)

/-- Both resets set every item of the reset table but S, PR and BUF (10_state.md R40, 70_reset_and_hazards.md R300, R301). -/
theorem State.clearControl_controlAtReset : ControlAtReset s.clearControl :=
  have hinten : s.clearControl.intenWord = 0 := by simp [State.intenWord, flagBit]
  have hstatus : s.clearControl.statusWord = 0 := by simp [State.statusWord, State.swait, State.scount, flagBit]
  ⟨rfl, hstatus, rfl, rfl, hinten, rfl, rfl, rfl, rfl, rfl, rfl, rfl, rfl⟩

/-- The cells' origins are what a hardware reset leaves them, whatever else has changed. -/
theorem dataUnwritten_of_same {t : State} (hS : t.S = State.reset.S) (hPR : t.PR = State.reset.PR)
    (hB : t.bufOrigin = State.reset.bufOrigin) : DataUnwritten t := by
  rw [DataUnwritten, hS, hPR, hB]
  refine ⟨fun r => ?_, fun p j => ?_, fun k hk => ?_⟩
  · rw [State.reset_S_get]
    rfl
  · rw [State.reset_PR_get]
    rfl
  · exact Vector.getElem?_replicate.trans (if_pos hk)

/-- Settles O51: a hardware reset gives the machine of R40, whose control state is already the cleared one. -/
theorem hardwareReset : Obligations.HardwareReset := by
  refine ⟨State.clearControl_controlAtReset State.reset, dataUnwritten_of_same rfl rfl rfl, fun s hs => ?_⟩
  refine ⟨s.advance.hardReset, ?_, State.clearControl_controlAtReset s.advance.hardReset,
    dataUnwritten_of_same rfl rfl rfl⟩
  rw [step, hs]
  rfl

end Sys2Proof.Machine
end

section
/-! PROOFS. The registers CTRL, INTEN and STREAM_IN at the host port, and the derived flags irq and SWAIT (10_state.md). -/

namespace Sys2Proof.Machine

variable (s : State)

/-! ### The port at the three registers (20_memory.md R61) -/

theorem locate_ctrl : locate (atByte 0x010) = .ctrl := by decide

theorem locate_inten : locate (atByte 0x014) = .inten := by decide

theorem locate_streamIn : locate (atByte 0x018) = .streamIn := by decide

@[simp] theorem State.readWord_ctrl : s.readWord (atByte 0x010) = 0 := by
  rw [State.readWord, locate_ctrl]

@[simp] theorem State.readWord_inten : s.readWord (atByte 0x014) = s.intenWord := by
  rw [State.readWord, locate_inten]

@[simp] theorem State.readWord_streamIn : s.readWord (atByte 0x018) = 0 := by
  rw [State.readWord, locate_streamIn]

@[simp] theorem State.hostWrite_ctrl (w : Word) : s.hostWrite (atByte 0x010) w = s.writeCtrl w := by
  rw [State.hostWrite, locate_ctrl]

@[simp] theorem State.hostWrite_inten (w : Word) : s.hostWrite (atByte 0x014) w = s.setInten w := by
  rw [State.hostWrite, locate_inten]

@[simp] theorem State.hostWrite_streamIn (w : Word) : s.hostWrite (atByte 0x018) w = s.pushStream w := by
  rw [State.hostWrite, locate_streamIn]

/-! ### STREAM_IN -/

/-- The four bytes of a word as numbers, the low one first (10_state.md R34). -/
theorem bytesOfWord_eq_ofNat (w : Word) :
    bytesOfWord w = [BitVec.ofNat 8 w.toNat, BitVec.ofNat 8 (w.toNat / 2 ^ 8), BitVec.ofNat 8 (w.toNat / 2 ^ 16),
      BitVec.ofNat 8 (w.toNat / 2 ^ 24)] := by
  simp only [bytesOfWord, BitVec.extractLsb', Nat.shiftRight_eq_div_pow, Nat.pow_zero, Nat.div_one]

theorem State.pushStream_of_room (w : Word) (h : s.FIFO.length ≤ 60) :
    s.pushStream w = { s with FIFO := s.FIFO ++ bytesOfWord w } := if_pos h

theorem State.pushStream_of_full (w : Word) (h : 60 < s.FIFO.length) : s.pushStream w = { s with sovf := true } :=
  if_neg (Nat.not_le_of_lt h)

/-- Settles O48, by the two branches of a push. -/
theorem streamInAppendsFourBytes : Obligations.StreamInAppendsFourBytes := by
  intro s w
  refine ⟨s.readWord_streamIn, fun hroom => ?_, fun hfull => ?_⟩
  · rw [State.hostWrite_streamIn, s.pushStream_of_room w hroom, bytesOfWord_eq_ofNat]
  · rw [State.hostWrite_streamIn, s.pushStream_of_full w hfull]

/-! ### CTRL -/

theorem State.writeCtrl_reset {w : Word} (h0 : w.getLsbD 0 = true) : s.writeCtrl w = s.softReset := if_pos h0

theorem State.writeCtrl_flush {w : Word} (h0 : w.getLsbD 0 = false) (h1 : w.getLsbD 1 = true) : s.writeCtrl w = s.flush := by
  rw [State.writeCtrl, h0, h1, if_neg Bool.false_ne_true, if_pos rfl]

theorem State.writeCtrl_neither {w : Word} (h0 : w.getLsbD 0 = false) (h1 : w.getLsbD 1 = false) : s.writeCtrl w = s := by
  rw [State.writeCtrl, h0, h1, if_neg Bool.false_ne_true, if_neg Bool.false_ne_true]

/-- Settles O49, by the bits of the word: bit 0 outranks bit 1, and a flush looks at BUSY. -/
theorem ctrlFlushAndReset : Obligations.CtrlFlushAndReset := by
  intro s w
  rw [State.hostWrite_ctrl]
  refine ⟨s.readWord_ctrl, s.writeCtrl_reset, fun h0 h1 => ?_, s.writeCtrl_neither⟩
  rw [s.writeCtrl_flush h0 h1, State.flush]
  refine ⟨fun hb => ?_, fun hb => if_pos hb⟩
  rw [if_neg (Bool.eq_false_iff.1 hb)]

/-! ### INTEN, the interrupt output and SWAIT -/

/-- A flag's word has the flag at its bit and 0 elsewhere. -/
theorem flagBit_getLsbD (b : Bool) (n i : Nat) (hi : i < 32) : (flagBit b n).getLsbD i = (b && decide (n = i)) := by
  cases b with
  | false => exact BitVec.getLsbD_zero
  | true => simp only [flagBit, if_true, BitVec.getLsbD_ofNat, hi, decide_true, Bool.true_and, Nat.testBit_two_pow]

/-- INTEN reads back bits 1:0 of what was written (10_state.md R33). -/
theorem State.setInten_intenWord (w : Word) : (s.setInten w).intenWord = w &&& 3#32 := by
  have hmask : 3#32 = flagBit true 0 ||| flagBit true 1 := by decide
  refine BitVec.eq_of_getLsbD_eq fun i hi => ?_
  rw [hmask, State.intenWord, State.setInten_doneIE, State.setInten_errIE]
  simp only [BitVec.getLsbD_or, BitVec.getLsbD_and, flagBit_getLsbD _ _ i hi]
  obtain rfl | rfl | h : i = 0 ∨ i = 1 ∨ 1 < i := by omega
  · simp
  · simp
  · simp [show 0 ≠ i by omega, show 1 ≠ i by omega]

theorem isStream_iff (i : Instr) : isStream i = true ↔ ∃ d : Reg, i = .sampu d ∨ i = .cbd1 d ∨ i = .cbd2 d := by
  cases i <;> simp [isStream]

theorem State.curIsStream_iff :
    s.curIsStream = true ↔
      ∃ d : Reg, decode s.cur = .ok (.sampu d) ∨ decode s.cur = .ok (.cbd1 d) ∨ decode s.cur = .ok (.cbd2 d) := by
  unfold State.curIsStream
  cases decode s.cur with
  | ok i => simp only [isStream_iff, Decoded.ok.injEq]
  | error e => simp

theorem State.swait_iff : s.swait = true ↔ s.busy = true ∧ s.FIFO = [] ∧ s.curIsStream = true := by
  rw [State.swait, Bool.and_eq_true, Bool.and_eq_true, List.isEmpty_iff, and_assoc, and_comm (a := s.curIsStream = true)]

theorem State.irq_iff : s.irq = true ↔ (s.done = true ∧ s.doneIE = true) ∨ (s.err = true ∧ s.errIE = true) := by
  simp only [State.irq, Bool.or_eq_true, Bool.and_eq_true]

/-- Settles O50, from what INTEN's write and read do and from the two derived flags as conjunctions. -/
theorem interruptEnableAndDerivedFlags : Obligations.InterruptEnableAndDerivedFlags := by
  refine ⟨rfl, fun s w => ⟨?_, s.hostWrite_inten w, s.irq_iff, ?_⟩⟩
  · rw [State.hostWrite_inten, State.readWord_inten, State.setInten_intenWord]
  · rw [State.swait_iff, State.curIsStream_iff]

end Sys2Proof.Machine
end

section
/-! PROOFS. The address map at the data windows, the registers and the reserved words, and what an access there is
(20_memory.md R60, R61). -/

namespace Sys2Proof.Machine

variable (s : State)

/-! ### The address map -/

/-- A word-aligned byte address of the 16 KiB map is four times its word address (20_memory.md R60). -/
theorem four_mul_atByte_toNat {a : Nat} (h : a < 0x4000) (haligned : a % 4 = 0) : 4 * (atByte a).toNat = a := by
  rw [atByte, BitVec.toNat_ofNat]
  omega

theorem locate_id : locate (atByte 0x000) = .id := by decide

theorem locate_cmd : locate (atByte 0x004) = .cmd := by decide

theorem locate_status : locate (atByte 0x008) = .status := by decide

theorem locate_cause : locate (atByte 0x00C) = .cause := by decide

/-- An index computed from an address is the index whose number the computation gives. -/
theorem fin_ofNat_eq {n : Nat} [NeZero n] {x : Nat} {i : Fin n} (h : x = i.val) : Fin.ofNat n x = i :=
  Fin.ext ((Fin.val_ofNat n x).trans (by rw [h, Nat.mod_eq_of_lt i.isLt]))

theorem locate_scalar (r : Reg) : locate (atByte (0x0100 + 4 * r.val)) = .scalar r := by
  have ha : 4 * (atByte (0x0100 + 4 * r.val)).toNat = 0x0100 + 4 * r.val := four_mul_atByte_toNat (by omega) (by omega)
  simp (disch := omega) only [locate, ha, if_neg, if_pos]
  exact congrArg Location.scalar (fin_ofNat_eq (by omega))

theorem locate_buffer (k : Reg) : locate (atByte (0x0200 + 4 * k.val)) = .buffer k := by
  have ha : 4 * (atByte (0x0200 + 4 * k.val)).toNat = 0x0200 + 4 * k.val := four_mul_atByte_toNat (by omega) (by omega)
  simp (disch := omega) only [locate, ha, if_neg, if_pos]
  exact congrArg Location.buffer (fin_ofNat_eq (by omega))

theorem locate_coef (p : Reg) (j : Lane) : locate (atByte (0x1000 + 0x100 * p.val + 4 * j.val)) = .coef p j := by
  have ha : 4 * (atByte (0x1000 + 0x100 * p.val + 4 * j.val)).toNat = 0x1000 + 0x100 * p.val + 4 * j.val :=
    four_mul_atByte_toNat (by omega) (by omega)
  simp (disch := omega) only [locate, ha, if_neg, if_pos]
  exact congrArg₂ Location.coef (fin_ofNat_eq (by omega)) (fin_ofNat_eq (by omega))

/-- The reserved word addresses are those of R61 between and above the registers and windows. -/
theorem locate_reserved {a : BitVec 12} (h : (0x007 ≤ a.toNat ∧ a.toNat ≤ 0x03F) ∨ (0x060 ≤ a.toNat ∧ a.toNat ≤ 0x07F) ∨
    (0x0A0 ≤ a.toNat ∧ a.toNat ≤ 0x3FF) ∨ 0xC00 ≤ a.toNat) : locate a = .reserved := by
  simp (disch := omega) only [locate, if_neg]

/-! ### Reads and writes through the map -/

@[simp] theorem State.readWord_id : s.readWord (atByte 0x000) = Config.idValue := by
  rw [State.readWord, locate_id]

@[simp] theorem State.readWord_cmd : s.readWord (atByte 0x004) = s.lastCmd := by
  rw [State.readWord, locate_cmd]

@[simp] theorem State.readWord_status : s.readWord (atByte 0x008) = s.statusWord := by
  rw [State.readWord, locate_status]

@[simp] theorem State.readWord_cause : s.readWord (atByte 0x00C) = s.causeWord := by
  rw [State.readWord, locate_cause]

@[simp] theorem State.readWord_scalar (r : Reg) :
    s.readWord (atByte (0x0100 + 4 * r.val)) = s.windowRead ((s.scalar r).zeroExtend 32) := by
  rw [State.readWord, locate_scalar]

@[simp] theorem State.readWord_buffer (k : Reg) :
    s.readWord (atByte (0x0200 + 4 * k.val)) = s.windowRead (s.bufferWord k) := by
  rw [State.readWord, locate_buffer]

@[simp] theorem State.readWord_coef (p : Reg) (j : Lane) :
    s.readWord (atByte (0x1000 + 0x100 * p.val + 4 * j.val)) = s.windowRead ((s.coef p j).zeroExtend 32) := by
  rw [State.readWord, locate_coef]

@[simp] theorem State.hostWrite_id (w : Word) : s.hostWrite (atByte 0x000) w = s := by
  rw [State.hostWrite, locate_id]

@[simp] theorem State.hostWrite_status (w : Word) : s.hostWrite (atByte 0x008) w = s.clearFlags w := by
  rw [State.hostWrite, locate_status]

@[simp] theorem State.hostWrite_cause (w : Word) : s.hostWrite (atByte 0x00C) w = s := by
  rw [State.hostWrite, locate_cause]

@[simp] theorem State.hostWrite_scalar (r : Reg) (w : Word) :
    s.hostWrite (atByte (0x0100 + 4 * r.val)) w = s.writeScalarWindow r w := by
  rw [State.hostWrite, locate_scalar]

@[simp] theorem State.hostWrite_buffer (k : Reg) (w : Word) :
    s.hostWrite (atByte (0x0200 + 4 * k.val)) w = s.writeBufferWindow k w := by
  rw [State.hostWrite, locate_buffer]

@[simp] theorem State.hostWrite_coef (p : Reg) (j : Lane) (w : Word) :
    s.hostWrite (atByte (0x1000 + 0x100 * p.val + 4 * j.val)) w = s.writeCoefWindow p j w := by
  rw [State.hostWrite, locate_coef]

end Sys2Proof.Machine
end

section
/-! PROOFS. The scalar, polynomial and buffer windows: one equation per case of a read and of a write (20_memory.md R64 to R66,
R70). -/

namespace Sys2Proof.Machine

variable {s : State}

theorem State.windowRead_of_idle (hb : s.busy = false) (v : Word) : s.windowRead v = v :=
  if_neg (Bool.eq_false_iff.1 hb)

/-! ### The two windows of canonical cells -/

/-- A cell reads zero-extended. -/
theorem State.windowRead_cell_toNat (hb : s.busy = false) (c : Coef) : (s.windowRead (c.zeroExtend 32)).toNat = c.toNat := by
  rw [State.windowRead_of_idle hb]
  exact BitVec.toNat_setWidth_of_le (by decide)

theorem State.writeScalarWindow_of_busy (hb : s.busy = true) (r : Reg) (w : Word) : s.writeScalarWindow r w = s.setWerr :=
  if_pos hb

theorem State.writeScalarWindow_of_canonical (hb : s.busy = false) (r : Reg) {w : Word} (hw : w.toNat < 7681) :
    s.writeScalarWindow r w = s.setScalar r (BitVec.ofNat 13 w.toNat) := by
  rw [BitVec.ofNat_toNat]
  exact (if_neg (Bool.eq_false_iff.1 hb)).trans (if_pos hw)

theorem State.writeScalarWindow_of_noncanonical (hb : s.busy = false) (r : Reg) {w : Word} (hw : 7681 ≤ w.toNat) :
    s.writeScalarWindow r w = s.setWerr :=
  (if_neg (Bool.eq_false_iff.1 hb)).trans (if_neg (Nat.not_lt_of_le hw))

theorem State.writeCoefWindow_of_busy (hb : s.busy = true) (p : Reg) (j : Lane) (w : Word) :
    s.writeCoefWindow p j w = s.setWerr := if_pos hb

theorem State.writeCoefWindow_of_canonical (hb : s.busy = false) (p : Reg) (j : Lane) {w : Word} (hw : w.toNat < 7681) :
    s.writeCoefWindow p j w = s.setCoef p j.val (BitVec.ofNat 13 w.toNat) := by
  rw [BitVec.ofNat_toNat]
  exact (if_neg (Bool.eq_false_iff.1 hb)).trans (if_pos hw)

theorem State.writeCoefWindow_of_noncanonical (hb : s.busy = false) (p : Reg) (j : Lane) {w : Word} (hw : 7681 ≤ w.toNat) :
    s.writeCoefWindow p j w = s.setWerr :=
  (if_neg (Bool.eq_false_iff.1 hb)).trans (if_neg (Nat.not_lt_of_le hw))

/-- Settles O43: at each window's addresses, by the cases of a write there. -/
theorem scalarAndPolynomialWindows : Obligations.ScalarAndPolynomialWindows := by
  intro s w
  refine ⟨fun r a ha => ?_, fun p j a ha => ?_⟩
  · rw [ha, State.readWord_scalar, State.hostWrite_scalar]
    exact ⟨fun hb => ⟨State.windowRead_cell_toNat hb _, State.writeScalarWindow_of_canonical hb r,
      State.writeScalarWindow_of_noncanonical hb r⟩, fun hb => State.writeScalarWindow_of_busy hb r w⟩
  · rw [ha, State.readWord_coef, State.hostWrite_coef]
    exact ⟨fun hb => ⟨State.windowRead_cell_toNat hb _, State.writeCoefWindow_of_canonical hb p j,
      State.writeCoefWindow_of_noncanonical hb p j⟩, fun hb => State.writeCoefWindow_of_busy hb p j w⟩

/-! ### The buffer window -/

theorem State.writeBufferWindow_of_busy (hb : s.busy = true) (k : Reg) (w : Word) : s.writeBufferWindow k w = s.setWerr :=
  if_pos hb

theorem State.writeBufferWindow_of_idle (hb : s.busy = false) (k : Reg) (w : Word) :
    s.writeBufferWindow k w = s.setBytes (4 * k.val) (bytesOfWord w) := if_neg (Bool.eq_false_iff.1 hb)

theorem bytesOfWord_length (w : Word) : (bytesOfWord w).length = 4 := rfl

/-- Byte i of a word is its digit i to base 256. -/
theorem bytesOfWord_getD_toNat (w : Word) {i : Nat} (hi : i < 4) :
    ((bytesOfWord w).getD i 0).toNat = w.toNat / 2 ^ (8 * i) % 256 := by
  rw [bytesOfWord_eq_ofNat]
  obtain rfl | rfl | rfl | rfl : i = 0 ∨ i = 1 ∨ i = 2 ∨ i = 3 := by omega
  · simp
  · simp
  · simp
  · simp

/-- A byte placed n bits up is its number times 2^n, while it fits. -/
theorem byte_shiftLeft_toNat (b : Byte) {n : Nat} (hn : n ≤ 24) : (b.zeroExtend 32 <<< n).toNat = 2 ^ n * b.toNat := by
  have hlt : 2 ^ n * b.toNat < 2 ^ 32 :=
    calc 2 ^ n * b.toNat < 2 ^ n * 2 ^ 8 := Nat.mul_lt_mul_of_pos_left b.isLt (Nat.two_pow_pos n)
      _ = 2 ^ (n + 8) := (Nat.pow_add 2 n 8).symm
      _ ≤ 2 ^ 32 := Nat.pow_le_pow_right (by decide) (by omega)
  rw [BitVec.toNat_shiftLeft, BitVec.toNat_setWidth_of_le (by decide), Nat.shiftLeft_eq, Nat.mul_comm, Nat.mod_eq_of_lt hlt]

/-- The bytes of a little-endian word are its digits to base 256, the first one the lowest. -/
theorem wordOfBytes_toNat (b0 b1 b2 b3 : Byte) :
    (wordOfBytes b0 b1 b2 b3).toNat = b0.toNat + b1.toNat * 2 ^ 8 + b2.toNat * 2 ^ 16 + b3.toNat * 2 ^ 24 := by
  have h0 := b0.isLt
  have h1 := b1.isLt
  have h2 := b2.isLt
  simp only [wordOfBytes, BitVec.toNat_or, byte_shiftLeft_toNat _ (show 8 ≤ 24 by decide),
    byte_shiftLeft_toNat _ (show 16 ≤ 24 by decide), byte_shiftLeft_toNat _ (show 24 ≤ 24 by decide),
    BitVec.toNat_setWidth_of_le (show 8 ≤ 32 by decide)]
  rw [Nat.or_comm b0.toNat, ← Nat.two_pow_add_eq_or_of_lt h0, Nat.or_comm _ (2 ^ 16 * _),
    ← Nat.two_pow_add_eq_or_of_lt (by omega), Nat.or_comm _ (2 ^ 24 * _), ← Nat.two_pow_add_eq_or_of_lt (by omega)]
  omega

/-- Byte i of word k after a write of the word. -/
theorem State.setBytes_word_byte (h : Memory.wf s.BUF) (k : Reg) (w : Word) {i : Nat} (hi : i < 4) :
    ((s.setBytes (4 * k.val) (bytesOfWord w)).byte (4 * k.val + i)).toNat = w.toNat / 2 ^ (8 * i) % 256 := by
  have hlen := bytesOfWord_length w
  rw [State.setBytes_byte s _ _ _ h.1 (by omega), if_pos (by omega), Nat.add_sub_cancel_left, bytesOfWord_getD_toNat w hi]

theorem State.bufferWord_toNat (s : State) (k : Reg) :
    (s.bufferWord k).toNat = (s.byte (4 * k.val)).toNat + (s.byte (4 * k.val + 1)).toNat * 2 ^ 8 +
      (s.byte (4 * k.val + 2)).toNat * 2 ^ 16 + (s.byte (4 * k.val + 3)).toNat * 2 ^ 24 := wordOfBytes_toNat _ _ _ _

/-- A written word reads back: its four digits make it up again. -/
theorem State.setBytes_bufferWord (h : Memory.wf s.BUF) (k : Reg) (w : Word) :
    (s.setBytes (4 * k.val) (bytesOfWord w)).bufferWord k = w := by
  have hw := w.isLt
  have hdigit := fun i (hi : i < 4) => State.setBytes_word_byte h k w hi
  have h0 := hdigit 0 (by decide)
  rw [Nat.add_zero] at h0
  apply BitVec.eq_of_toNat_eq
  rw [State.bufferWord_toNat, h0, hdigit 1 (by decide), hdigit 2 (by decide), hdigit 3 (by decide)]
  omega

/-- Settles O44: the window's word is its four bytes' number, and a write is a store of four bytes. -/
theorem bufferWindowIsLittleEndian : Obligations.BufferWindowIsLittleEndian := by
  intro s w k a hwf ha
  have hlen := bytesOfWord_length w
  rw [ha, State.readWord_buffer, State.hostWrite_buffer]
  refine ⟨fun hb => ⟨?_, _, State.writeBufferWindow_of_idle hb k w, fun i hi => ⟨State.setBytes_word_byte hwf k w hi, ?_⟩,
    fun i hi => ⟨?_, ?_⟩, rfl, rfl, rfl, rfl, ⟨rfl, rfl, rfl, rfl, rfl, rfl, rfl⟩, rfl, ⟨rfl, rfl, rfl, rfl⟩, rfl,
    ⟨rfl, rfl, rfl⟩, ?_⟩, fun hb => State.writeBufferWindow_of_busy hb k w⟩
  · rw [State.windowRead_of_idle hb, State.bufferWord_toNat]
  · rw [State.setBytes_bufOrigin, markBytes_getElem?, if_pos (by omega)]
  · rw [State.setBytes_byte s _ _ _ hwf.1 (by omega), if_neg (by omega)]
  · rw [State.setBytes_bufOrigin, markBytes_getElem?, if_neg (by omega)]
  · rw [State.readWord_buffer, State.windowRead_of_idle (s := s.setBytes _ _) hb, State.setBytes_bufferWord hwf]

end Sys2Proof.Machine
end

section
/-! PROOFS. Reserved addresses and reserved bits (20_memory.md R67, 10_state.md R27). -/

namespace Sys2Proof.Machine

variable (s : State)

/-! ### Reserved bits read 0 -/

/-- A flag is under no mask that leaves its bit out. -/
theorem flagBit_and_eq_zero (b : Bool) {n : Nat} {m : Word} (h : BitVec.ofNat 32 (2 ^ n) &&& m = 0) : flagBit b n &&& m = 0 := by
  cases b with
  | false => exact BitVec.zero_and
  | true => exact h

/-- No flag of STATUS and no bit of SCOUNT is a reserved one (10_state.md R28). -/
theorem State.statusWord_reserved : s.statusWord &&& 0xFFFF80C0#32 = 0 := by
  have hscount : ∀ c : BitVec 7, (c.zeroExtend 32 <<< 8) &&& 0xFFFF80C0#32 = 0 := by decide
  simp (disch := decide) only [State.statusWord, BitVec.and_or_distrib_right, flagBit_and_eq_zero, hscount, BitVec.or_self]

theorem State.causeWord_reserved : s.causeWord &&& 0xFFFFFFF0#32 = 0 := by
  have hcode : ∀ c : BitVec 4, c.zeroExtend 32 &&& 0xFFFFFFF0#32 = 0 := by decide
  exact hcode s.cause

theorem State.intenWord_reserved : s.intenWord &&& 0xFFFFFFFC#32 = 0 := by
  simp (disch := decide) only [State.intenWord, BitVec.and_or_distrib_right, flagBit_and_eq_zero, BitVec.or_self]

/-! ### Reserved bits ignore writes -/

/-- A mask keeps the bits it holds. -/
theorem getLsbD_and_of_mask (w : Word) {m : Word} {i : Nat} (h : m.getLsbD i = true) : (w &&& m).getLsbD i = w.getLsbD i := by
  rw [BitVec.getLsbD_and, h, Bool.and_true]

theorem State.clearFlags_and_mask (w : Word) : s.clearFlags (w &&& 0x36#32) = s.clearFlags w := by
  simp (disch := decide) only [State.clearFlags, getLsbD_and_of_mask]

theorem State.writeCtrl_and_mask (w : Word) : s.writeCtrl (w &&& 3#32) = s.writeCtrl w := by
  simp (disch := decide) only [State.writeCtrl, getLsbD_and_of_mask]

theorem State.setInten_and_mask (w : Word) : s.setInten (w &&& 3#32) = s.setInten w := by
  simp (disch := decide) only [State.setInten, getLsbD_and_of_mask]

/-! ### The statement -/

theorem State.readWord_reserved {a : BitVec 12} (h : locate a = .reserved) : s.readWord a = 0 := by
  rw [State.readWord, h]

theorem State.hostWrite_reserved {a : BitVec 12} (h : locate a = .reserved) (w : Word) : s.hostWrite a w = s := by
  rw [State.hostWrite, h]

/-- Settles O46, register by register through the address map. -/
theorem reservedAddressesAndReads : Obligations.ReservedAddressesAndReads := by
  intro s w
  rw [State.hostWrite_status, State.hostWrite_status, State.hostWrite_ctrl, State.hostWrite_ctrl, State.hostWrite_inten,
    State.hostWrite_inten, State.readWord_status, State.readWord_cause, State.readWord_inten]
  exact ⟨fun a ha => ⟨s.readWord_reserved (locate_reserved ha), s.hostWrite_reserved (locate_reserved ha) w⟩,
    s.hostWrite_id w, s.hostWrite_cause w, s.readWord_ctrl, s.readWord_streamIn, s.readWord_id, s.readWord_cmd,
    s.statusWord_reserved, s.causeWord_reserved, s.intenWord_reserved, (s.clearFlags_and_mask w).symm,
    (s.writeCtrl_and_mask w).symm, (s.setInten_and_mask w).symm, fun _ => rfl⟩

end Sys2Proof.Machine
end

section
/-! PROOFS. The opcode map against the decoder (30_encoding.md R91 to R98): a masked match compares a word field by field, so a
row covers a word exactly when the opcodes agree and the bits its format fixes to 0 are 0, which is what the decoder checks. -/

namespace Sys2Proof

/-! ### The five fields of a word (30_encoding.md R91) -/

theorem field_lt (w : Word) (lo len : Nat) : field w lo len < 2 ^ len := Nat.mod_lt _ (Nat.two_pow_pos len)

@[simp] theorem field_ofNat (n lo len : Nat) : field (BitVec.ofNat 32 n) lo len = n % 2 ^ 32 / 2 ^ lo % 2 ^ len := by
  rw [field, BitVec.toNat_ofNat]

@[simp] theorem field_and (w m : Word) (lo len : Nat) : field (w &&& m) lo len = field w lo len &&& field m lo len := by
  rw [field, BitVec.toNat_and, Nat.and_div_two_pow, Nat.and_mod_two_pow]
  rfl

/-- A mask that holds a whole field keeps it. -/
theorem field_and_ones (w : Word) (lo len : Nat) : field w lo len &&& 2 ^ len - 1 = field w lo len := by
  rw [Nat.and_two_pow_sub_one_eq_mod, Nat.mod_eq_of_lt (field_lt w lo len)]

@[simp] theorem field_and_31 (w : Word) (lo : Nat) : field w lo 5 &&& 31 = field w lo 5 := field_and_ones w lo 5

@[simp] theorem field_and_63 (w : Word) (lo : Nat) : field w lo 6 &&& 63 = field w lo 6 := field_and_ones w lo 6

@[simp] theorem field_and_2047 (w : Word) (lo : Nat) : field w lo 11 &&& 2047 = field w lo 11 := field_and_ones w lo 11

@[simp] theorem regField_eq_zero_iff (w : Word) (lo : Nat) : regField w lo = 0 ↔ field w lo 5 = 0 := Fin.ext_iff

/-- A word is its five fields. -/
theorem word_eq_iff_fields {v w : Word} :
    v = w ↔ field v 26 6 = field w 26 6 ∧ field v 21 5 = field w 21 5 ∧ field v 16 5 = field w 16 5 ∧
      field v 11 5 = field w 11 5 ∧ field v 0 11 = field w 0 11 := by
  refine ⟨fun h => by simp only [h, and_self], fun h => BitVec.eq_of_toNat_eq ?_⟩
  have hv := v.isLt
  have hw := w.isLt
  simp only [field] at h
  omega

/-! ### The bits a format fixes to 0, as a mask (30_encoding.md R92) -/

theorem zeroN_eq (w : Word) : zeroN w = (w &&& 0x03FFFFFF#32 == 0#32) := by
  rw [Bool.eq_iff_iff, beq_iff_eq, word_eq_iff_fields]
  simp [zeroN, dField, aField, bField, zField, and_assoc]

theorem zeroRRR_eq (w : Word) : zeroRRR w = (w &&& 0x000007FF#32 == 0#32) := by
  rw [Bool.eq_iff_iff, beq_iff_eq, word_eq_iff_fields]
  simp [zeroRRR, zField]

theorem zeroRR_eq (w : Word) : zeroRR w = (w &&& 0x0000FFFF#32 == 0#32) := by
  rw [Bool.eq_iff_iff, beq_iff_eq, word_eq_iff_fields]
  simp [zeroRR, bField, zField]

theorem zeroRD_eq (w : Word) : zeroRD w = (w &&& 0x001FFFFF#32 == 0#32) := by
  rw [Bool.eq_iff_iff, beq_iff_eq, word_eq_iff_fields]
  simp [zeroRD, aField, bField, zField, and_assoc]

theorem zeroRA_eq (w : Word) : zeroRA w = (w &&& 0x03E0FFFF#32 == 0#32) := by
  rw [Bool.eq_iff_iff, beq_iff_eq, word_eq_iff_fields]
  simp [zeroRA, dField, bField, zField, and_assoc]

/-! ### The rows of the opcode map (30_encoding.md R95) -/

/-- The row's opcode. -/
def OpcodeRow.op (r : OpcodeRow) : Nat := opField r.pattern

/-- The word has a 0 in every bit that the row fixes below the opcode. -/
def OpcodeRow.fixedZero (r : OpcodeRow) (w : Word) : Bool := w &&& (r.mask &&& 0x03FFFFFF#32) == 0#32

/-- Every row fixes all of OP, and fixes no bit below it to 1. -/
theorem opcodeRows_shape : ∀ r ∈ opcodeRows, field r.mask 26 6 = 63 ∧ field r.pattern 21 5 = 0 ∧ field r.pattern 16 5 = 0 ∧
    field r.pattern 11 5 = 0 ∧ field r.pattern 0 11 = 0 := by decide

theorem opcodeRows_mnemonic_injective : ∀ r ∈ opcodeRows, ∀ r' ∈ opcodeRows, r.mnemonic = r'.mnemonic → r = r' := by decide

/-- A row covers the words of its opcode with a 0 in every bit it fixes below. -/
theorem OpcodeRow.covers_iff {r : OpcodeRow} (hr : r ∈ opcodeRows) (w : Word) :
    r.covers w = true ↔ opField w = r.op ∧ r.fixedZero w = true := by
  obtain ⟨hop, hd, ha, hb, hz⟩ := opcodeRows_shape r hr
  rw [OpcodeRow.covers, OpcodeRow.op, OpcodeRow.fixedZero, beq_iff_eq, beq_iff_eq, word_eq_iff_fields, word_eq_iff_fields,
    opField, opField]
  simp [hop, hd, ha, hb, hz]

/-- On a row's opcode the decoder answers the row's command, if the bits the row fixes are 0. -/
theorem decode_of_row {r : OpcodeRow} (hr : r ∈ opcodeRows) {w : Word} (hop : opField w = r.op) :
    ∃ i : Instr, mnemonicOf i = r.mnemonic ∧ decode w = guarded (r.fixedZero w) i := by
  simp only [decode, hop, zeroN_eq, zeroRRR_eq, zeroRR_eq, zeroRD_eq, zeroRA_eq]
  simp only [opcodeRows, opcodeRowsScalar, opcodeRowsPoly, opcodeRowsStream, List.cons_append, List.nil_append,
    List.mem_cons, List.not_mem_nil, or_false] at hr
  rcases hr with rfl | rfl | rfl | rfl | rfl | rfl | rfl | rfl | rfl | rfl | rfl | rfl | rfl | rfl | rfl | rfl | rfl | rfl |
    rfl | rfl | rfl
  · exact ⟨.nop, rfl, rfl⟩
  · exact ⟨.sadd _ _ _, rfl, rfl⟩
  · exact ⟨.ssub _ _ _, rfl, rfl⟩
  · exact ⟨.smul _ _ _, rfl, rfl⟩
  · exact ⟨.sinv _ _, rfl, rfl⟩
  · exact ⟨.pzero _, rfl, rfl⟩
  · exact ⟨.padd _ _ _, rfl, rfl⟩
  · exact ⟨.psub _ _ _, rfl, rfl⟩
  · exact ⟨.pmul _ _ _, rfl, rfl⟩
  · exact ⟨.pmac _ _ _, rfl, rfl⟩
  · exact ⟨.ntt _ _, rfl, rfl⟩
  · exact ⟨.intt _ _, rfl, rfl⟩
  · exact ⟨.sampu _, rfl, rfl⟩
  · exact ⟨.cbd1 _, rfl, rfl⟩
  · exact ⟨.cbd2 _, rfl, rfl⟩
  · exact ⟨.cmp10 _, rfl, rfl⟩
  · exact ⟨.dec10 _, rfl, rfl⟩
  · exact ⟨.cmp3 _, rfl, rfl⟩
  · exact ⟨.dec3 _, rfl, rfl⟩
  · exact ⟨.ser13 _, rfl, rfl⟩
  · exact ⟨.des13 _, rfl, rfl⟩

/-- The opcodes of no row are the 43 that 30_encoding.md R96 lists. -/
theorem unusedOpcode_iff (w : Word) : Machine.unusedOpcode (opField w) ↔ ∀ r ∈ opcodeRows, opField w ≠ r.op := by
  have hall : ∀ op < 64, Machine.unusedOpcode op ↔ ∀ r ∈ opcodeRows, op ≠ r.op := by
    unfold Machine.unusedOpcode
    decide
  exact hall (opField w) (field_lt w 26 6)

theorem legalOpcode_iff (w : Word) : legalOpcode w = true ↔ ∃ r ∈ opcodeRows, opField w = r.op := by
  have hshift : ∀ v : Word, (v >>> 26).toNat = opField v := fun v => by
    have hv := v.isLt
    rw [BitVec.toNat_ushiftRight, Nat.shiftRight_eq_div_pow, opField, field]
    omega
  simp only [legalOpcode, List.any_eq_true, beq_iff_eq, ← BitVec.toNat_inj, hshift, OpcodeRow.op]

theorem wellFormedWord_iff (w : Word) : wellFormedWord w = true ↔ ∃ r ∈ opcodeRows, r.covers w = true := List.any_eq_true

/-- On any other opcode the decoder's last arm answers. -/
theorem decode_of_unusedOpcode {w : Word} (h : Machine.unusedOpcode (opField w)) : decode w = .error .illegalOpcode := by
  unfold Machine.unusedOpcode at h
  unfold decode
  generalize opField w = op at h
  split <;> try omega
  rfl

/-! ### The three kinds of words (30_encoding.md R98) -/

theorem guarded_eq_ok_iff {zero : Bool} {i j : Instr} : guarded zero i = .ok j ↔ zero = true ∧ i = j := by
  cases zero <;> simp [guarded]

theorem guarded_ne_illegalOpcode (zero : Bool) (i : Instr) : guarded zero i ≠ .error .illegalOpcode := by
  cases zero <;> simp [guarded]

theorem unusedOpcode_or_row (w : Word) : Machine.unusedOpcode (opField w) ∨ ∃ r ∈ opcodeRows, opField w = r.op := by
  rw [unusedOpcode_iff, or_iff_not_imp_right]
  exact fun h r hr hop => h ⟨r, hr, hop⟩

theorem decode_of_covers {r : OpcodeRow} (hr : r ∈ opcodeRows) {w : Word} (h : r.covers w = true) :
    ∃ i : Instr, decode w = .ok i ∧ mnemonicOf i = r.mnemonic := by
  obtain ⟨hop, hzero⟩ := (OpcodeRow.covers_iff hr w).1 h
  obtain ⟨i, hname, hdecode⟩ := decode_of_row hr hop
  exact ⟨i, hdecode.trans (guarded_eq_ok_iff.2 ⟨hzero, rfl⟩), hname⟩

/-- A command's word is covered by the row of its mnemonic. -/
theorem row_of_decode_ok {w : Word} {i : Instr} (h : decode w = .ok i) :
    ∃ r ∈ opcodeRows, r.covers w = true ∧ mnemonicOf i = r.mnemonic := by
  obtain hunused | ⟨r, hr, hop⟩ := unusedOpcode_or_row w
  · cases h.symm.trans (decode_of_unusedOpcode hunused)
  · obtain ⟨j, hname, hdecode⟩ := decode_of_row hr hop
    obtain ⟨hzero, rfl⟩ := guarded_eq_ok_iff.1 (hdecode.symm.trans h)
    exact ⟨r, hr, (OpcodeRow.covers_iff hr w).2 ⟨hop, hzero⟩, hname⟩

theorem wellFormedWord_iff_decode (w : Word) : wellFormedWord w = true ↔ ∃ i : Instr, decode w = .ok i := by
  rw [wellFormedWord_iff]
  constructor
  · rintro ⟨r, hr, hcovers⟩
    obtain ⟨i, hdecode, -⟩ := decode_of_covers hr hcovers
    exact ⟨i, hdecode⟩
  · rintro ⟨i, hdecode⟩
    obtain ⟨r, hr, hcovers, -⟩ := row_of_decode_ok hdecode
    exact ⟨r, hr, hcovers⟩

theorem unusedOpcode_iff_decode (w : Word) : Machine.unusedOpcode (opField w) ↔ decode w = .error .illegalOpcode := by
  refine ⟨decode_of_unusedOpcode, fun h => (unusedOpcode_or_row w).resolve_right ?_⟩
  rintro ⟨r, hr, hop⟩
  obtain ⟨i, -, hdecode⟩ := decode_of_row hr hop
  exact guarded_ne_illegalOpcode _ i (hdecode.symm.trans h)

theorem legalOpcode_eq_false_iff (w : Word) : legalOpcode w = false ↔ Machine.unusedOpcode (opField w) := by
  rw [← Bool.not_eq_true, legalOpcode_iff, unusedOpcode_iff]
  simp only [not_exists, not_and, ne_eq]

theorem reservedField_iff_decode (w : Word) :
    legalOpcode w = true ∧ wellFormedWord w = false ↔ decode w = .error .reservedField := by
  rw [← Bool.not_eq_false, legalOpcode_eq_false_iff, unusedOpcode_iff_decode, ← Bool.not_eq_true, wellFormedWord_iff_decode]
  cases decode w with
  | ok i => simp
  | error e =>
    cases e with
    | illegalOpcode => simp
    | reservedField => simp

/-- Settles O3: a covering row has its words' opcode, and a mnemonic names one row only. -/
theorem opcodeRowsNameTheirWords : Obligations.OpcodeRowsNameTheirWords := by
  intro w r hr
  constructor
  · intro hmatch
    exact decode_of_covers hr (beq_iff_eq.2 hmatch)
  · rintro ⟨i, hdecode, hname⟩
    obtain ⟨r', hr', hcovers, hname'⟩ := row_of_decode_ok hdecode
    obtain rfl : r' = r := opcodeRows_mnemonic_injective r' hr' r hr (hname'.symm.trans hname)
    exact beq_iff_eq.1 hcovers

/-- Settles O4: the three answers of the decoder, one equivalence each. -/
theorem everyWordIsOneOfThreeKinds : Obligations.EveryWordIsOneOfThreeKinds := fun w =>
  ⟨wellFormedWord_iff_decode w, (legalOpcode_eq_false_iff w).trans (unusedOpcode_iff_decode w), reservedField_iff_decode w⟩

end Sys2Proof
end

section
/-! PROOFS. The words that are no command: the issue takes them like any other word, and the engine's step is the command error
of the decoding error (30_encoding.md R96, R97, 60_exceptions.md R273). -/

namespace Sys2Proof.Machine

variable {s : State}

@[simp] theorem State.hostWrite_cmd (s : State) (w : Word) : s.hostWrite (atByte 0x004) w = s.writeCmd w := by
  rw [State.hostWrite, locate_cmd]

theorem State.writeCmd_of_idle (hb : s.busy = false) (w : Word) : s.writeCmd w = s.issue w :=
  if_neg (Bool.eq_false_iff.1 hb)

/-- A command error changes the error's own fields and ends the command, and that is all (60_exceptions.md R273). -/
theorem State.cmdError_failedKeeping (s : State) (e : CmdError) : FailedKeeping (errorCode e) s (s.cmdError e) :=
  ⟨rfl, rfl, rfl, rfl, rfl, rfl, ⟨fun _ => rfl, rfl⟩, rfl, rfl, rfl, rfl, rfl, rfl, ⟨rfl, rfl, rfl, rfl⟩, ⟨rfl, rfl, rfl⟩⟩

/-- An engine step on a word that is no command. -/
theorem engineStep_of_decode_error (hb : s.busy = true) {e : DecodeError} (hd : decode s.cur = .error e) :
    ∃ t, engineStep s = .next t ∧ FailedKeeping (errorCode (decodeErrorCause e)) s t := by
  refine ⟨s.cmdError (decodeErrorCause e), ?_, s.cmdError_failedKeeping (decodeErrorCause e)⟩
  rw [engineStep, if_pos hb, hd]

/-- Settles O5: the decoder names these words, and the engine's step raises the error that it names. -/
theorem illegalOpcodeEndsWithCode1 : Obligations.IllegalOpcodeEndsWithCode1 := by
  intro w
  refine ⟨unusedOpcode_iff_decode w, fun s hunused => ⟨fun hb => ?_, fun hb hcur => ?_⟩⟩
  · rw [State.hostWrite_cmd, State.writeCmd_of_idle hb]
  · have hdecode : decode s.cur = .error .illegalOpcode := hcur ▸ decode_of_unusedOpcode hunused
    exact engineStep_of_decode_error hb hdecode

/-- Settles O6: the same step on a reserved-field word. -/
theorem reservedFieldEndsWithCode2 : Obligations.ReservedFieldEndsWithCode2 := by
  intro s hb hlegal hill
  have hdecode : decode s.cur = .error .reservedField := (reservedField_iff_decode s.cur).1 ⟨hlegal, hill⟩
  exact engineStep_of_decode_error hb hdecode

end Sys2Proof.Machine
end

section
/-! PROOFS. The command protocol (40_command.md): what a write to CMD does on either value of BUSY, and NOP. -/

namespace Sys2Proof

/-- The decoder's row of opcode 0 (30_encoding.md R95). -/
theorem decode_of_opField_zero {w : Word} (hop : opField w = 0) : decode w = guarded (zeroN w) .nop := by
  simp only [decode, hop]

/-- Below the opcode, format N fixes every bit to 0, so it leaves an opcode one word. -/
theorem zeroN_iff_eq_zero {w : Word} (hop : opField w = 0) : zeroN w = true ↔ w = 0#32 := by
  rw [word_eq_iff_fields]
  simp [zeroN, dField, aField, bField, zField, and_assoc, show field w 26 6 = 0 from hop]

namespace Machine

variable {s : State}

theorem State.writeCmd_of_busy (hb : s.busy = true) (w : Word) : s.writeCmd w = s.setWerr := if_pos hb

theorem State.issue_sameData (s : State) (w : Word) : SameData s (s.issue w) := ⟨rfl, rfl, fun _ => rfl, rfl⟩

theorem State.complete_sameData (s : State) : SameData s s.complete := ⟨rfl, rfl, fun _ => rfl, rfl⟩

/-- A normal completion ends with BUSY = 0 and DONE = 1 and keeps the rest of the control state (40_command.md R124). -/
theorem State.complete_completedKeeping (s : State) : CompletedKeeping s s.complete :=
  ⟨rfl, rfl, ⟨rfl, rfl, rfl, rfl, rfl, rfl, rfl⟩, rfl, ⟨rfl, rfl, rfl, rfl⟩, ⟨rfl, rfl, rfl⟩⟩

/-- Settles O11: the write is the issue when BUSY is 0, and WERR is set, nothing else, when it is 1. -/
theorem commandIssue : Obligations.CommandIssue := by
  intro s w
  rw [State.hostWrite_cmd]
  exact ⟨fun hb => ⟨s.issue w, State.writeCmd_of_idle hb w, rfl, rfl, rfl, rfl, rfl, rfl, rfl, rfl, rfl, rfl, rfl, rfl, rfl, rfl,
    s.issue_sameData w⟩, fun hb => State.writeCmd_of_busy hb w⟩

/-- Settles O12: among the words of opcode 0, format N leaves the word 0 only, and the command is a completion. -/
theorem nopCompletes : Obligations.NopCompletes := by
  refine ⟨?_, fun w hop hw => ?_, fun s => ⟨s.complete, rfl, s.complete_completedKeeping, s.complete_sameData⟩⟩
  · have hop : opField 0#32 = 0 := by decide
    rw [decode_of_opField_zero hop, (zeroN_iff_eq_zero hop).2 rfl]
    rfl
  · have hill : zeroN w = false := Bool.eq_false_iff.2 (mt (zeroN_iff_eq_zero hop).1 hw)
    rw [decode_of_opField_zero hop, hill]
    rfl

end Machine
end Sys2Proof
end

section
/-! PROOFS. The decoder on the encoder's words: the five fields come back, and the fields a format fixes to 0 are encoded as 0
(30_encoding.md R91, R92, R95). -/

namespace Sys2Proof

/-- The decoder gives every encoded command back. -/
theorem decode_encode (i : Instr) : decode (encode i) = .ok i := by
  cases i <;>
    simp [encode, decode, guarded, zeroN, zeroRRR, zeroRR, zeroRD, zeroRA, opField_encodeFields, dField_encodeFields,
      aField_encodeFields, bField_encodeFields, zField_encodeFields]

end Sys2Proof
end

section
/-! PROOFS. The scalar commands (41_scalar.md): each writes one residue below q to S[D] and completes, and SINV's residue is the
inverse by Fermat's little theorem. -/

namespace Sys2Proof.Machine

/-! ### The effect of a scalar command -/

theorem State.setScalar_get_self (s : State) (d : Reg) (v : Coef) : (s.setScalar d v).S.get d = Cell.ofWrite v :=
  (s.setScalar_get d v d).trans (if_pos rfl)

/-- A write of S[D] and the completion after it, with nothing else changed (40_command.md R124). -/
theorem State.setScalar_complete_writesScalar (s : State) (d : Reg) {v : Coef} {n : Int} (hv : (v.toNat : Int) = n) :
    WritesScalar d n s (s.setScalar d v).complete := by
  refine ⟨?_, ?_, fun r hr => (s.setScalar_get d v r).trans (if_neg hr), rfl, ⟨fun _ => rfl, rfl⟩,
    (s.setScalar d v).complete_completedKeeping⟩
  · rw [State.complete_S, State.setScalar_get_self]
    exact hv
  · rw [State.complete_S, State.setScalar_get_self]
    rfl

/-- Settles O13: the sum is computed in the integers and reduced once. -/
theorem saddWritesTheSum : Obligations.SaddWritesTheSum := fun d a b =>
  ⟨decode_encode (.sadd d a b), fun s => ⟨_, rfl, s.setScalar_complete_writesScalar d (reduce_emod _)⟩⟩

/-- Settles O14: the difference is computed in the integers and reduced once, by the floor remainder. -/
theorem ssubWritesTheDifference : Obligations.SsubWritesTheDifference := fun d a b =>
  ⟨decode_encode (.ssub d a b), fun s => ⟨_, rfl, s.setScalar_complete_writesScalar d (reduce_emod _)⟩⟩

/-- Settles O15: the exact product is reduced once. -/
theorem smulWritesTheProduct : Obligations.SmulWritesTheProduct := fun d a b =>
  ⟨decode_encode (.smul d a b), fun s => ⟨_, rfl, s.setScalar_complete_writesScalar d (reduce_emod _)⟩⟩

/-! ### The inverse modulo q -/

theorem prime_q : Nat.Prime Config.q := by norm_num

section
variable {a : Coef} (h0 : a ≠ 0) (ha : a.toNat < Config.q)
include h0 ha

theorem coprime_q_of_ne_zero : Nat.Coprime a.toNat Config.q :=
  (Nat.coprime_of_lt_prime (fun h => h0 (BitVec.eq_of_toNat_eq h)) ha prime_q).symm

/-- Fermat's little theorem: a · a^(q-2) = a^(q-1) = 1 modulo q. -/
theorem mul_invMod_modEq_one : a.toNat * (invMod a).toNat ≡ 1 [MOD Config.q] := by
  have hfermat : a.toNat ^ (fermatExponent + 1) ≡ 1 [MOD Config.q] := by
    have h := Nat.ModEq.pow_totient (coprime_q_of_ne_zero h0 ha)
    rwa [Nat.totient_prime prime_q] at h
  calc a.toNat * (invMod a).toNat
      ≡ a.toNat * a.toNat ^ fermatExponent [MOD Config.q] := by
        rw [invMod_toNat]
        exact (Nat.mod_modEq _ _).mul_left _
    _ = a.toNat ^ (fermatExponent + 1) := (pow_succ' _ _).symm
    _ ≡ 1 [MOD Config.q] := hfermat

/-- A unit of Z_q has one inverse below q (41_scalar.md R144). -/
theorem mul_mod_eq_one_iff_eq_invMod {x : Nat} (hx : x < Config.q) :
    a.toNat * x % Config.q = 1 ↔ x = (invMod a).toNat := by
  constructor
  · intro h
    have hinv : a.toNat * x ≡ 1 [MOD Config.q] := h
    have hmul : a.toNat * x ≡ a.toNat * (invMod a).toNat [MOD Config.q] := hinv.trans (mul_invMod_modEq_one h0 ha).symm
    have hx' : x ≡ (invMod a).toNat [MOD Config.q] := hmul.cancel_left_of_coprime (coprime_q_of_ne_zero h0 ha).symm
    exact hx'.eq_of_lt_of_lt hx (reduce_canonical _)
  · rintro rfl
    exact mul_invMod_modEq_one h0 ha

end

theorem execSinv_of_zero {s : State} {a : Reg} (d : Reg) (h : s.scalar a = 0) :
    execSinv d a s = .next (s.cmdError .invZero) := if_pos h

theorem execSinv_of_ne_zero {s : State} {a : Reg} (d : Reg) (h : s.scalar a ≠ 0) :
    execSinv d a s = .next (s.setScalar d (invMod (s.scalar a))).complete := if_neg h

/-- Settles O16, by the two cases of the source: 0 raises INV_ZERO, and anything else writes Fermat's power, which for a canonical
source is the one inverse. -/
theorem sinvWritesTheInverse : Obligations.SinvWritesTheInverse := by
  intro d a
  refine ⟨decode_encode (.sinv d a), fun s => ⟨fun h0 => ?_, fun h0 => ?_⟩⟩
  · exact ⟨_, execSinv_of_zero d h0, s.cmdError_failedKeeping .invZero⟩
  · refine ⟨_, execSinv_of_ne_zero d h0, s.setScalar_complete_writesScalar d (congrArg Nat.cast (invMod_toNat _)),
      fun ha x _ hx => ?_⟩
    rw [State.complete_S, State.setScalar_get_self]
    exact mul_mod_eq_one_iff_eq_invMod h0 ha hx

end Sys2Proof.Machine
end

section
/-! PROOFS. The lane-wise polynomial commands (42_poly_arith.md): each computes 64 residues below q from the state before it,
writes them to PR[D] and completes. -/

namespace Sys2Proof.Machine

/-! ### The effect of a command that writes PR[D] whole -/

theorem polyResult_get_self (d : Reg) (v : Poly) (s : State) (j : Lane) :
    ((polyResult d v s).PR.get d).get j = Cell.ofWrite (v.get j) :=
  (polyResult_get d v s d j).trans (if_pos rfl)

theorem polyResult_samePolysBut (d : Reg) (v : Poly) (s : State) : SamePolysBut d s (polyResult d v s) :=
  fun p hp => s.setPoly_get_ne d v p hp

/-- A write of all 64 lanes of PR[D] and the completion after it, with nothing else changed (40_command.md R124). -/
theorem polyResult_writesPoly (d : Reg) {v : Poly} {n : Lane → Int} (s : State)
    (hv : ∀ j : Lane, ((v.get j).toNat : Int) = n j) : WritesPoly d n s (polyResult d v s) := by
  refine ⟨fun j => ?_, polyResult_samePolysBut d v s, rfl, ⟨fun _ => rfl, rfl⟩, (s.setPoly d v).complete_completedKeeping⟩
  rw [polyResult_get_self]
  exact ⟨hv j, rfl⟩

/-! ### The lanes of the results -/

theorem polyZero_get_toNat (j : Lane) : ((polyZero.get j).toNat : Int) = 0 := by
  rw [polyZero, lanes_get]
  rfl

section
variable (s : State) (a b : Reg) (j : Lane)

theorem polyAdd_get_toNat :
    (((polyAdd (s.poly a) (s.poly b)).get j).toNat : Int) = ((coefNat s a j : Int) + coefNat s b j) % 7681 := by
  rw [polyAdd, lanes_get, State.poly_get, State.poly_get]
  exact reduce_emod _

theorem polySub_get_toNat :
    (((polySub (s.poly a) (s.poly b)).get j).toNat : Int) = ((coefNat s a j : Int) - coefNat s b j) % 7681 := by
  rw [polySub, lanes_get, State.poly_get, State.poly_get]
  exact reduce_emod _

theorem polyMul_get_toNat :
    (((polyMul (s.poly a) (s.poly b)).get j).toNat : Int) = ((coefNat s a j : Int) * coefNat s b j) % 7681 := by
  rw [polyMul, lanes_get, State.poly_get, State.poly_get]
  exact reduce_emod _

end

/-! ### The commands -/

/-- Settles O17: the written polynomial is 0 in every lane. -/
theorem pzeroWritesZero : Obligations.PzeroWritesZero := fun d =>
  ⟨decode_encode (.pzero d), fun s => ⟨_, rfl, polyResult_writesPoly d s polyZero_get_toNat⟩⟩

/-- Settles O18: each lane's sum is computed in the integers and reduced once. -/
theorem paddWritesTheLaneSums : Obligations.PaddWritesTheLaneSums := fun d a b =>
  ⟨decode_encode (.padd d a b), fun s => ⟨_, rfl, polyResult_writesPoly d s (polyAdd_get_toNat s a b)⟩⟩

/-- Settles O19: each lane's difference is computed in the integers and reduced once, by the floor remainder. -/
theorem psubWritesTheLaneDifferences : Obligations.PsubWritesTheLaneDifferences := fun d a b =>
  ⟨decode_encode (.psub d a b), fun s => ⟨_, rfl, polyResult_writesPoly d s (polySub_get_toNat s a b)⟩⟩

/-- Settles O20: each lane's exact product is reduced once. -/
theorem pmulWritesTheLaneProducts : Obligations.PmulWritesTheLaneProducts := fun d a b =>
  ⟨decode_encode (.pmul d a b), fun s => ⟨_, rfl, polyResult_writesPoly d s (polyMul_get_toNat s a b)⟩⟩

end Sys2Proof.Machine
end

section
/-! PROOFS. The layers of the transforms (43_ntt.md R182, R184): the butterflies of a layer touch disjoint pairs of lanes, so each
pair of the result is a function of the same pair of the input, and in the residues mod q that function is linear. -/

namespace Sys2Proof.Machine

/-! ### A butterfly, on either transform -/

/-- Lanes p and p + len become f and g of the two, and every other lane stays. -/
def pairStep (f g : Coef → Coef → Coef) (len : Nat) (a : Poly) (p : Nat) : Poly := lanes fun k =>
  if k.val = p then f (laneAt a p) (laneAt a (p + len))
  else if k.val = p + len then g (laneAt a p) (laneAt a (p + len)) else a.get k

theorem forwardButterfly_eq_pairStep (z : Coef) (len : Nat) (a : Poly) (p : Nat) :
    forwardButterfly z len a p = pairStep (fun u v => addMod u (mulMod z v)) (fun u v => subMod u (mulMod z v)) len a p :=
  vector_ext_get _ _ fun k => by rw [forwardButterfly_get, pairStep, lanes_get]

theorem inverseButterfly_eq_pairStep (z : Coef) {len : Nat} (hlen : 0 < len) (a : Poly) (p : Nat) :
    inverseButterfly z len a p = pairStep addMod (fun u v => mulMod z (subMod u v)) len a p :=
  vector_ext_get _ _ fun k => by
    rw [pairStep, lanes_get]
    simp only [inverseButterfly, vector_get_setIfInBounds]
    by_cases hk : k.val = p
    · rw [if_neg (by omega), if_pos hk, if_pos hk]
    · rw [if_neg hk, if_neg hk]

@[simp] theorem laneAt_val (a : Poly) (k : Lane) : laneAt a k.val = a.get k := by
  show a.getD k.val 0 = a[k.val]
  simp [Vector.getD]

theorem laneAt_of_lt (a : Poly) {k : Nat} (hk : k < 64) : laneAt a k = a.get ⟨k, hk⟩ := laneAt_val a ⟨k, hk⟩

section
variable (f g : Coef → Coef → Coef) {len : Nat} (a : Poly) {p k : Nat}

theorem laneAt_pairStep_low (hp : p < 64) : laneAt (pairStep f g len a p) p = f (laneAt a p) (laneAt a (p + len)) := by
  rw [laneAt_of_lt _ hp, pairStep, lanes_get, if_pos rfl]

theorem laneAt_pairStep_high (hlen : 0 < len) (hp : p + len < 64) :
    laneAt (pairStep f g len a p) (p + len) = g (laneAt a p) (laneAt a (p + len)) := by
  rw [laneAt_of_lt _ hp, pairStep, lanes_get, if_neg (by simp only; omega), if_pos rfl]

theorem laneAt_pairStep_of_ne (hk : k < 64) (hlow : k ≠ p) (hhigh : k ≠ p + len) :
    laneAt (pairStep f g len a p) k = laneAt a k := by
  rw [laneAt_of_lt _ hk, pairStep, lanes_get, if_neg hlow, if_neg hhigh, laneAt_of_lt _ hk]

end

/-! ### The butterflies of a layer -/

/-- The pairs of lanes at p and at p' have no lane in common. -/
def Apart (len p p' : Nat) : Prop := p ≠ p' ∧ p ≠ p' + len ∧ p + len ≠ p'

section
variable {ι : Type} (f g : ι → Coef → Coef → Coef) (len : Nat) (pos : ι → Nat)

/-- Butterflies one after the other, the one of index x on lanes `pos x` and `pos x + len`. -/
def pairSteps (l : List ι) (a : Poly) : Poly := l.foldl (fun a x => pairStep (f x) (g x) len a (pos x)) a

variable {f g len pos} {l : List ι}

theorem laneAt_pairSteps_of_ne {k : Nat} (hk : k < 64) (hl : ∀ x ∈ l, k ≠ pos x ∧ k ≠ pos x + len) (a : Poly) :
    laneAt (pairSteps f g len pos l a) k = laneAt a k := by
  induction l generalizing a with
  | nil => rfl
  | cons x xs ih =>
    obtain ⟨hx, hxs⟩ := List.forall_mem_cons.1 hl
    exact (ih hxs _).trans (laneAt_pairStep_of_ne _ _ a hk hx.1 hx.2)

/-- Butterflies on disjoint pairs each find their pair as it was before the first of them. -/
theorem laneAt_pairSteps (hlen : 0 < len) (hl : l.Pairwise fun x y => Apart len (pos x) (pos y)) {x : ι} (hx : x ∈ l)
    (hpos : pos x + len < 64) (a : Poly) :
    laneAt (pairSteps f g len pos l a) (pos x) = f x (laneAt a (pos x)) (laneAt a (pos x + len)) ∧
      laneAt (pairSteps f g len pos l a) (pos x + len) = g x (laneAt a (pos x)) (laneAt a (pos x + len)) := by
  induction l generalizing a with
  | nil => cases hx
  | cons y ys ih =>
    obtain ⟨hy, hys⟩ := List.pairwise_cons.1 hl
    obtain rfl | hx := List.mem_cons.1 hx
    · have hlow : ∀ z ∈ ys, pos x ≠ pos z ∧ pos x ≠ pos z + len := fun z hz => ⟨(hy z hz).1, (hy z hz).2.1⟩
      have hhigh : ∀ z ∈ ys, pos x + len ≠ pos z ∧ pos x + len ≠ pos z + len := fun z hz =>
        ⟨(hy z hz).2.2, fun h => (hy z hz).1 (Nat.add_right_cancel h)⟩
      exact ⟨(laneAt_pairSteps_of_ne (by omega) hlow _).trans (laneAt_pairStep_low _ _ a (by omega)),
        (laneAt_pairSteps_of_ne hpos hhigh _).trans (laneAt_pairStep_high _ _ a hlen hpos)⟩
    · obtain ⟨h1, h2, h3⟩ := hy x hx
      have hstep := ih hys hx (pairStep (f y) (g y) len a (pos y))
      rwa [laneAt_pairStep_of_ne _ _ a (by omega) h1.symm h3.symm,
        laneAt_pairStep_of_ne _ _ a hpos h2.symm (fun h => h1 (Nat.add_right_cancel h).symm)] at hstep

end

/-- The butterflies of the layer of half-length len, in order: block x.1, lane x.2 of its lower half. -/
def layerIndices (len : Nat) : List (Nat × Nat) := List.range (64 / (2 * len)) ×ˢ List.range len

/-- The lower lane of a butterfly. -/
def lowLane (len : Nat) (x : Nat × Nat) : Nat := 2 * len * x.1 + x.2

theorem mem_layerIndices {len : Nat} {x : Nat × Nat} : x ∈ layerIndices len ↔ x.1 < 64 / (2 * len) ∧ x.2 < len := by
  rw [layerIndices, List.mem_product, List.mem_range, List.mem_range]

theorem eq_of_mul_add_eq {n b t b' t' : Nat} (ht : t < n) (ht' : t' < n) (h : n * b + t = n * b' + t') : b = b' ∧ t = t' := by
  have hmod := congrArg (· % n) h
  simp only [Nat.mul_add_mod, Nat.mod_eq_of_lt ht, Nat.mod_eq_of_lt ht'] at hmod
  exact ⟨Nat.eq_of_mul_eq_mul_left (Nat.zero_lt_of_lt ht) (by omega), hmod⟩

/-- Two butterflies of one layer touch disjoint pairs (43_ntt.md R182). -/
theorem lowLane_apart {len : Nat} {x y : Nat × Nat} (hx : x.2 < len) (hy : y.2 < len) (hne : x ≠ y) :
    Apart len (lowLane len x) (lowLane len y) := by
  refine ⟨fun h => hne ?_, fun h => ?_, fun h => ?_⟩
  · obtain ⟨h1, h2⟩ := eq_of_mul_add_eq (by omega) (by omega) h
    exact Prod.ext h1 h2
  · have := (eq_of_mul_add_eq (by omega) (by omega) (h.trans (Nat.add_assoc _ _ _))).2
    omega
  · have := (eq_of_mul_add_eq (by omega) (by omega) ((Nat.add_assoc _ _ _).symm.trans h)).2
    omega

theorem layerIndices_apart (len : Nat) :
    (layerIndices len).Pairwise fun x y => Apart len (lowLane len x) (lowLane len y) :=
  (List.nodup_range.product List.nodup_range).pairwise_of_forall_ne fun _ hx _ hy hne =>
    lowLane_apart (mem_layerIndices.1 hx).2 (mem_layerIndices.1 hy).2 hne

/-- A loop over the blocks and, in each, over the lanes of its lower half, as one loop. -/
theorem foldl_blocks_eq_foldl_layerIndices (op : Nat → Poly → Nat → Poly) (len : Nat) (a : Poly) :
    (List.range (64 / (2 * len))).foldl (fun a b => (List.range len).foldl (op b) a) a =
      (layerIndices len).foldl (fun a x => op x.1 a x.2) a := by
  simp only [layerIndices, SProd.sprod, List.product, List.foldl_flatMap, List.foldl_map]

theorem forwardLayer_eq_pairSteps (a : Poly) (len : Nat) :
    forwardLayer a len = pairSteps (fun x u v => addMod u (mulMod (zeta (64 / (2 * len) + x.1)) v))
      (fun x u v => subMod u (mulMod (zeta (64 / (2 * len) + x.1)) v)) len (lowLane len) (layerIndices len) a := by
  refine (foldl_blocks_eq_foldl_layerIndices _ len a).trans ?_
  simp only [forwardButterfly_eq_pairStep]
  rfl

theorem inverseLayer_eq_pairSteps (a : Poly) {len : Nat} (hlen : 0 < len) :
    inverseLayer a len = pairSteps (fun _ => addMod) (fun x u v => mulMod (negZeta (64 / len - 1 - x.1)) (subMod u v)) len
      (lowLane len) (layerIndices len) a := by
  refine (foldl_blocks_eq_foldl_layerIndices _ len a).trans ?_
  simp only [inverseButterfly_eq_pairStep _ hlen]
  rfl

/-! ### Residues mod q -/

/-- A coefficient as an element of Z_q. -/
def coefResidue (c : Coef) : ZMod Config.q := (c.toNat : ZMod Config.q)

/-- Lane k as an element of Z_q. -/
def residue (a : Poly) (k : Nat) : ZMod Config.q := coefResidue (laneAt a k)

@[simp] theorem coefResidue_reduce (x : Int) : coefResidue (reduce x) = (x : ZMod Config.q) := by
  have h : (((reduce x).toNat : Int) : ZMod Config.q) = ((x % (Config.q : Int) : Int) : ZMod Config.q) :=
    congrArg Int.cast (reduce_emod x)
  rw [ZMod.intCast_mod, Int.cast_natCast] at h
  exact h

@[simp] theorem coefResidue_addMod (u v : Coef) : coefResidue (addMod u v) = coefResidue u + coefResidue v :=
  (coefResidue_reduce _).trans (by simp [coefResidue])

@[simp] theorem coefResidue_subMod (u v : Coef) : coefResidue (subMod u v) = coefResidue u - coefResidue v :=
  (coefResidue_reduce _).trans (by simp [coefResidue])

@[simp] theorem coefResidue_mulMod (u v : Coef) : coefResidue (mulMod u v) = coefResidue u * coefResidue v :=
  (coefResidue_reduce _).trans (by simp [coefResidue])

@[simp] theorem coefResidue_macMod (r u v : Coef) :
    coefResidue (macMod r u v) = coefResidue r + coefResidue u * coefResidue v :=
  (coefResidue_reduce _).trans (by simp [coefResidue])

theorem residue_val (a : Poly) (k : Lane) : residue a k.val = coefResidue (a.get k) := by rw [residue, laneAt_val]

theorem residue_lanes (f : Lane → Coef) (k : Lane) : residue (lanes f) k.val = coefResidue (f k) := by
  rw [residue_val, lanes_get]

/-- A coefficient below q is its residue. -/
theorem eq_of_coefResidue_eq {u v : Coef} (hu : u.toNat < Config.q) (hv : v.toNat < Config.q)
    (h : coefResidue u = coefResidue v) : u = v :=
  BitVec.eq_of_toNat_eq (((ZMod.natCast_eq_natCast_iff _ _ _).1 h).eq_of_lt_of_lt hu hv)

theorem poly_eq_of_residue_eq {a b : Poly} (ha : CanonicalPoly a) (hb : CanonicalPoly b)
    (h : ∀ k < 64, residue a k = residue b k) : a = b :=
  vector_ext_get _ _ fun k => eq_of_coefResidue_eq (ha k) (hb k) (by
    rw [← residue_val, ← residue_val]
    exact h k.val k.isLt)

/-! ### A layer on the residues

The half-lengths of the six layers are the numbers whose double divides 64. -/

section
variable {len b j : Nat}

theorem pos_of_two_mul_dvd (hlen : 2 * len ∣ 64) : 0 < len :=
  Nat.pos_of_mul_pos_left (Nat.pos_of_dvd_of_pos hlen (by decide))

theorem block_lt (hlen : 2 * len ∣ 64) (hb : b < 64 / (2 * len)) (hj : j < len) : 2 * len * b + j + len < 64 := by
  have h : 2 * len * (b + 1) ≤ 2 * len * (64 / (2 * len)) := Nat.mul_le_mul_left _ hb
  rw [Nat.mul_div_cancel' hlen, Nat.mul_add_one] at h
  omega

/-- Butterfly j of block b. -/
theorem laneAt_layer (f g : Nat × Nat → Coef → Coef → Coef) (hlen : 2 * len ∣ 64) (hb : b < 64 / (2 * len)) (hj : j < len)
    (a : Poly) :
    laneAt (pairSteps f g len (lowLane len) (layerIndices len) a) (2 * len * b + j) =
        f (b, j) (laneAt a (2 * len * b + j)) (laneAt a (2 * len * b + j + len)) ∧
      laneAt (pairSteps f g len (lowLane len) (layerIndices len) a) (2 * len * b + j + len) =
        g (b, j) (laneAt a (2 * len * b + j)) (laneAt a (2 * len * b + j + len)) :=
  laneAt_pairSteps (x := (b, j)) (pos_of_two_mul_dvd hlen) (layerIndices_apart len) (mem_layerIndices.2 ⟨hb, hj⟩)
    (block_lt hlen hb hj) a

theorem residue_forwardLayer (hlen : 2 * len ∣ 64) (hb : b < 64 / (2 * len)) (hj : j < len) (a : Poly) :
    residue (forwardLayer a len) (2 * len * b + j) = residue a (2 * len * b + j) +
        coefResidue (zeta (64 / (2 * len) + b)) * residue a (2 * len * b + j + len) ∧
      residue (forwardLayer a len) (2 * len * b + j + len) = residue a (2 * len * b + j) -
        coefResidue (zeta (64 / (2 * len) + b)) * residue a (2 * len * b + j + len) := by
  rw [forwardLayer_eq_pairSteps]
  simp only [residue, laneAt_layer _ _ hlen hb hj, coefResidue_addMod, coefResidue_subMod, coefResidue_mulMod, and_self]

theorem residue_inverseLayer (hlen : 2 * len ∣ 64) (hb : b < 64 / (2 * len)) (hj : j < len) (a : Poly) :
    residue (inverseLayer a len) (2 * len * b + j) = residue a (2 * len * b + j) + residue a (2 * len * b + j + len) ∧
      residue (inverseLayer a len) (2 * len * b + j + len) = coefResidue (negZeta (64 / len - 1 - b)) *
        (residue a (2 * len * b + j) - residue a (2 * len * b + j + len)) := by
  rw [inverseLayer_eq_pairSteps a (pos_of_two_mul_dvd hlen)]
  simp only [residue, laneAt_layer _ _ hlen hb hj, coefResidue_addMod, coefResidue_subMod, coefResidue_mulMod, and_self]

end

end Sys2Proof.Machine
end

section
/-! PROOFS. The round trip (43_ntt.md R185): a layer of one transform undoes the layer of the other of the same half-length up to
a factor 2, and NINV takes away the six factors. -/

namespace Sys2Proof.Machine

/-! ### The twiddles -/

/-- R181 on the table. -/
theorem zeta_toNat {k : Nat} (hk : k < 64) : (zeta k).toNat = Config.psi ^ brv6 k % Config.q := by
  have h : ∀ k < 64, (zeta k).toNat = Config.psi ^ brv6 k % Config.q := by decide
  exact h k hk

/-- PSI as an element of Z_q. -/
def psiResidue : ZMod Config.q := (Config.psi : ZMod Config.q)

/-- R180: PSI is a primitive 128th root of unity. -/
theorem psiResidue_pow_64 : psiResidue ^ 64 = -1 := by
  have h : (Config.psi ^ 64 + 1) % Config.q = 0 := by decide
  exact eq_neg_of_add_eq_zero_left (by exact_mod_cast (ZMod.natCast_eq_zero_iff _ _).2 (Nat.dvd_of_mod_eq_zero h))

theorem coefResidue_zeta {k : Nat} (hk : k < 64) : coefResidue (zeta k) = psiResidue ^ brv6 k := by
  rw [coefResidue, zeta_toNat hk, ZMod.natCast_mod, Nat.cast_pow, psiResidue]

theorem coefResidue_negZeta {k : Nat} (hk : k < 64) : coefResidue (negZeta k) = -psiResidue ^ brv6 k := by
  rw [negZeta, coefResidue_reduce, ← coefResidue_zeta hk, Int.cast_sub, Int.cast_natCast, coefResidue]
  have h : ((7681 : Int) : ZMod Config.q) = 0 := ZMod.natCast_self Config.q
  rw [h, zero_sub]

section
variable {len b : Nat}

theorem twiddle_lt (hlen : 2 * len ∣ 64) (hb : b < 64 / (2 * len)) :
    64 / (2 * len) + b < 64 ∧ 64 / len - 1 - b < 64 := by
  have hpos := pos_of_two_mul_dvd hlen
  have h2 : 64 / (2 * len) ≤ 64 / 2 := Nat.div_le_div_left (by omega) (by decide)
  have h1 : 64 / len ≤ 64 := Nat.div_le_self _ _
  omega

/-- The exponents of the twiddles that the two transforms use on one block add up to a half turn. -/
theorem brv6_add_brv6 (hlen : 2 * len ∣ 64) (hb : b < 64 / (2 * len)) :
    brv6 (64 / (2 * len) + b) + brv6 (64 / len - 1 - b) = 64 := by
  have h : ∀ len < 33, 2 * len ∣ 64 → ∀ b < 64 / (2 * len), brv6 (64 / (2 * len) + b) + brv6 (64 / len - 1 - b) = 64 := by
    decide
  have hle := Nat.le_of_dvd (by decide) hlen
  exact h len (by omega) hlen b hb

theorem coefResidue_zeta_mul_negZeta (hlen : 2 * len ∣ 64) (hb : b < 64 / (2 * len)) :
    coefResidue (zeta (64 / (2 * len) + b)) * coefResidue (negZeta (64 / len - 1 - b)) = 1 := by
  obtain ⟨hforward, hinverse⟩ := twiddle_lt hlen hb
  rw [coefResidue_zeta hforward, coefResidue_negZeta hinverse, mul_neg, ← pow_add, brv6_add_brv6 hlen hb,
    psiResidue_pow_64, neg_neg]

end

/-! ### Multiples of a polynomial -/

/-- a is c times b, lane by lane in Z_q. -/
def IsMultiple (c : ZMod Config.q) (a b : Poly) : Prop := ∀ k < 64, residue a k = c * residue b k

theorem IsMultiple.trans {c d : ZMod Config.q} {a b e : Poly} (hab : IsMultiple c a b) (hbe : IsMultiple d b e) :
    IsMultiple (c * d) a e := fun k hk => by rw [hab k hk, hbe k hk, mul_assoc]

section
variable {len : Nat} (hlen : 2 * len ∣ 64)
include hlen

/-- What holds of both lanes of every butterfly of a layer holds of every lane. -/
theorem isMultiple_of_pairs {c : ZMod Config.q} {a a' : Poly}
    (h : ∀ b < 64 / (2 * len), ∀ j < len, residue a (2 * len * b + j) = c * residue a' (2 * len * b + j) ∧
      residue a (2 * len * b + j + len) = c * residue a' (2 * len * b + j + len)) : IsMultiple c a a' := by
  intro k hk
  have hb : k / (2 * len) < 64 / (2 * len) := Nat.div_lt_div_of_lt_of_dvd hlen hk
  have hmod : k % (2 * len) < 2 * len := Nat.mod_lt _ (Nat.mul_pos (by decide) (pos_of_two_mul_dvd hlen))
  have hk' := Nat.div_add_mod k (2 * len)
  by_cases hj : k % (2 * len) < len
  · have hlow := (h _ hb _ hj).1
    rwa [hk'] at hlow
  · have hhigh := (h _ hb (k % (2 * len) - len) (by omega)).2
    rwa [Nat.add_assoc, Nat.sub_add_cancel (by omega), hk'] at hhigh

theorem IsMultiple.forwardLayer {c : ZMod Config.q} {a a' : Poly} (h : IsMultiple c a a') :
    IsMultiple c (forwardLayer a len) (forwardLayer a' len) := by
  refine isMultiple_of_pairs hlen fun b hb j hj => ?_
  have hlane := block_lt hlen hb hj
  obtain ⟨hlow, hhigh⟩ := residue_forwardLayer hlen hb hj a
  obtain ⟨hlow', hhigh'⟩ := residue_forwardLayer hlen hb hj a'
  rw [hlow, hhigh, hlow', hhigh', h _ hlane, h _ (by omega)]
  constructor <;> ring

theorem IsMultiple.inverseLayer {c : ZMod Config.q} {a a' : Poly} (h : IsMultiple c a a') :
    IsMultiple c (inverseLayer a len) (inverseLayer a' len) := by
  refine isMultiple_of_pairs hlen fun b hb j hj => ?_
  have hlane := block_lt hlen hb hj
  obtain ⟨hlow, hhigh⟩ := residue_inverseLayer hlen hb hj a
  obtain ⟨hlow', hhigh'⟩ := residue_inverseLayer hlen hb hj a'
  rw [hlow, hhigh, hlow', hhigh', h _ hlane, h _ (by omega)]
  constructor <;> ring

/-- (u + zv) + (u - zv) = 2u, and z⁻¹((u + zv) - (u - zv)) = 2v. -/
theorem inverseLayer_forwardLayer (a : Poly) : IsMultiple 2 (inverseLayer (forwardLayer a len) len) a := by
  refine isMultiple_of_pairs hlen fun b hb j hj => ?_
  have hz := coefResidue_zeta_mul_negZeta hlen hb
  obtain ⟨hlow, hhigh⟩ := residue_inverseLayer hlen hb hj (forwardLayer a len)
  obtain ⟨hlow', hhigh'⟩ := residue_forwardLayer hlen hb hj a
  rw [hlow, hhigh, hlow', hhigh']
  constructor
  · ring
  · linear_combination (2 * residue a (2 * len * b + j + len)) * hz

/-- (u + v) + z z⁻¹(u - v) = 2u, and (u + v) - z z⁻¹(u - v) = 2v. -/
theorem forwardLayer_inverseLayer (a : Poly) : IsMultiple 2 (forwardLayer (inverseLayer a len) len) a := by
  refine isMultiple_of_pairs hlen fun b hb j hj => ?_
  have hz := coefResidue_zeta_mul_negZeta hlen hb
  obtain ⟨hlow, hhigh⟩ := residue_forwardLayer hlen hb hj (inverseLayer a len)
  obtain ⟨hlow', hhigh'⟩ := residue_inverseLayer hlen hb hj a
  rw [hlow, hhigh, hlow', hhigh']
  constructor
  · linear_combination (residue a (2 * len * b + j) - residue a (2 * len * b + j + len)) * hz
  · linear_combination (residue a (2 * len * b + j + len) - residue a (2 * len * b + j)) * hz

end

/-! ### Six layers -/

section
variable {F G : Poly → Nat → Poly} {lens : List Nat}

theorem IsMultiple.foldl {c : ZMod Config.q} {a a' : Poly} (h : IsMultiple c a a')
    (hF : ∀ len ∈ lens, ∀ a a', IsMultiple c a a' → IsMultiple c (F a len) (F a' len)) :
    IsMultiple c (lens.foldl F a) (lens.foldl F a') := by
  induction lens generalizing a a' with
  | nil => exact h
  | cons len lens ih =>
    obtain ⟨hlen, hlens⟩ := List.forall_mem_cons.1 hF
    exact ih (hlen a a' h) hlens

/-- Layers undone in the opposite order, one factor 2 for each. -/
theorem foldl_reverse_foldl (hF : ∀ len ∈ lens, ∀ c a a', IsMultiple c a a' → IsMultiple c (F a len) (F a' len))
    (hFG : ∀ len ∈ lens, ∀ a, IsMultiple 2 (F (G a len) len) a) (a : Poly) :
    IsMultiple (2 ^ lens.length) (lens.reverse.foldl F (lens.foldl G a)) a := by
  induction lens generalizing a with
  | nil => exact fun k _ => (one_mul _).symm
  | cons len lens ih =>
    obtain ⟨hFlen, hFlens⟩ := List.forall_mem_cons.1 hF
    obtain ⟨hlen, hlens⟩ := List.forall_mem_cons.1 hFG
    rw [List.reverse_cons, List.foldl_append, List.foldl_cons, List.foldl_nil, List.foldl_cons, List.length_cons, pow_succ]
    exact (hFlen _ _ _ (ih hFlens hlens (G a len))).trans (hlen a)

end

theorem forwardLens_dvd : ∀ len ∈ [32, 16, 8, 4, 2, 1], 2 * len ∣ 64 := by decide

theorem inverseLens_dvd : ∀ len ∈ [1, 2, 4, 8, 16, 32], 2 * len ∣ 64 := by decide

theorem ninv_mul_pow : (Config.ninv : ZMod Config.q) * 2 ^ 6 = 1 := by
  have h : Config.ninv * 2 ^ 6 % Config.q = 1 % Config.q := by decide
  exact_mod_cast (ZMod.natCast_eq_natCast_iff' _ _ _).2 h

theorem scaleInverse_isMultiple (a : Poly) : IsMultiple (Config.ninv : ZMod Config.q) (scaleInverse a) a := fun k hk => by
  rw [scaleInverse, residue_lanes _ ⟨k, hk⟩, coefResidue_mulMod, mul_comm, ← residue_val]
  rfl

theorem inttPoly_nttPoly_isMultiple (a : Poly) : IsMultiple 1 (inttPoly (nttPoly a)) a := by
  rw [← ninv_mul_pow]
  exact (scaleInverse_isMultiple _).trans (foldl_reverse_foldl (lens := [32, 16, 8, 4, 2, 1])
    (fun len hlen _ _ _ h => h.inverseLayer (forwardLens_dvd len hlen))
    (fun len hlen => inverseLayer_forwardLayer (forwardLens_dvd len hlen)) a)

theorem nttPoly_inttPoly_isMultiple (a : Poly) : IsMultiple 1 (nttPoly (inttPoly a)) a := by
  rw [← ninv_mul_pow]
  exact ((scaleInverse_isMultiple _).foldl fun len hlen _ _ h => h.forwardLayer (forwardLens_dvd len hlen)).trans
    (foldl_reverse_foldl (lens := [1, 2, 4, 8, 16, 32])
      (fun len hlen _ _ _ h => h.forwardLayer (inverseLens_dvd len hlen))
      (fun len hlen => forwardLayer_inverseLayer (inverseLens_dvd len hlen)) a)

theorem IsMultiple.eq_of_one {a b : Poly} (h : IsMultiple 1 a b) (ha : CanonicalPoly a) (hb : CanonicalPoly b) : a = b :=
  poly_eq_of_residue_eq ha hb fun k hk => (h k hk).trans (one_mul _)

/-- Settles O26: the layers undo each other up to 2 ^ 6, which NINV inverts, and both transforms are canonical. -/
theorem transformsRoundTrip : Obligations.TransformsRoundTrip := fun p hp =>
  ⟨(inttPoly_nttPoly_isMultiple p).eq_of_one (inttPoly_canonical _) hp,
    (nttPoly_inttPoly_isMultiple p).eq_of_one (nttPoly_canonical _) hp⟩

end Sys2Proof.Machine
end

section
/-! PROOFS. What NTT computes (43_ntt.md R183): a layer splits each block's polynomial modulo x ^ (2 * len) - z ^ 2 into its
remainders modulo x ^ len - z and x ^ len + z, so a block's value at each of its points stays the same through the six layers. -/

namespace Sys2Proof.Machine

/-- The point of output lane i: PSI ^ (2 * brv6 i + 1). -/
def evalPoint (i : Nat) : ZMod Config.q := psiResidue ^ (2 * brv6 i + 1)

/-- The polynomial in the n lanes of lane i's block, at lane i's point. -/
def blockValue (a : Poly) (n i : Nat) : ZMod Config.q := ∑ t ∈ Finset.range n, residue a (n * (i / n) + t) * evalPoint i ^ t

theorem psiResidue_pow_mod_128 (e : Nat) : psiResidue ^ e = psiResidue ^ (e % 128) :=
  pow_eq_pow_mod e (by rw [show (128 : Nat) = 64 * 2 from rfl, pow_mul, psiResidue_pow_64, neg_one_sq])

section
variable {len i : Nat} (hlen : 2 * len ∣ 64) (hi : i < 64)
include hlen hi

/-- The exponent of a point's power len is the twiddle's in the lower half of a block, and half a turn more in the upper half. -/
theorem point_exponent :
    (2 * brv6 i + 1) * len % 128 = brv6 (64 / (2 * len) + i / (2 * len)) + 64 * (i / len % 2) := by
  have h : ∀ len < 33, 2 * len ∣ 64 → ∀ i < 64,
      (2 * brv6 i + 1) * len % 128 = brv6 (64 / (2 * len) + i / (2 * len)) + 64 * (i / len % 2) := by decide
  have hle := Nat.le_of_dvd (by decide) hlen
  exact h len (by omega) hlen i hi

theorem block_index_lt : i / (2 * len) < 64 / (2 * len) := Nat.div_lt_div_of_lt_of_dvd hlen hi

/-- A point is a root of x ^ len - z or of x ^ len + z, by the half of the block that it stands in. -/
theorem evalPoint_pow :
    evalPoint i ^ len = coefResidue (zeta (64 / (2 * len) + i / (2 * len))) * (-1) ^ (i / len % 2) := by
  rw [evalPoint, ← pow_mul, psiResidue_pow_mod_128, point_exponent hlen hi, pow_add, pow_mul, psiResidue_pow_64,
    coefResidue_zeta (twiddle_lt hlen (block_index_lt hlen hi)).1]

/-- Lane t of a half block after the layer, by the half: the remainder's coefficient t. -/
theorem residue_forwardLayer_half {t : Nat} (ht : t < len) (a : Poly) :
    residue (forwardLayer a len) (len * (i / len) + t) = residue a (2 * len * (i / (2 * len)) + t) +
      evalPoint i ^ len * residue a (2 * len * (i / (2 * len)) + (len + t)) := by
  obtain ⟨hlow, hhigh⟩ := residue_forwardLayer hlen (block_index_lt hlen hi) ht a
  have hblock : len * (i / len) = 2 * len * (i / (2 * len)) + len * (i / len % 2) := by
    rw [mul_comm 2 len, ← Nat.div_div_eq_div_mul, mul_assoc, ← mul_add, Nat.div_add_mod]
  rw [evalPoint_pow hlen hi, hblock, Nat.add_comm len t, ← Nat.add_assoc _ t len]
  rcases Nat.mod_two_eq_zero_or_one (i / len) with h | h
  · rw [h, mul_zero, Nat.add_zero, pow_zero, mul_one]
    exact hlow
  · rw [h, mul_one, Nat.add_right_comm, pow_one, hhigh]
    ring

theorem blockValue_forwardLayer (a : Poly) : blockValue (forwardLayer a len) len i = blockValue a (2 * len) i := by
  have hhalf : ∀ t ∈ Finset.range len, residue (forwardLayer a len) (len * (i / len) + t) * evalPoint i ^ t =
      residue a (2 * len * (i / (2 * len)) + t) * evalPoint i ^ t +
        residue a (2 * len * (i / (2 * len)) + (len + t)) * evalPoint i ^ (len + t) := fun t ht => by
    rw [residue_forwardLayer_half hlen hi (Finset.mem_range.1 ht)]
    ring
  calc blockValue (forwardLayer a len) len i
    _ = ∑ t ∈ Finset.range len, (residue a (2 * len * (i / (2 * len)) + t) * evalPoint i ^ t +
          residue a (2 * len * (i / (2 * len)) + (len + t)) * evalPoint i ^ (len + t)) := Finset.sum_congr rfl hhalf
    _ = ∑ t ∈ Finset.range (len + len), residue a (2 * len * (i / (2 * len)) + t) * evalPoint i ^ t := by
      rw [Finset.sum_add_distrib, Finset.sum_range_add]
    _ = blockValue a (2 * len) i := by rw [← two_mul, blockValue]

end

theorem blockValue_one (a : Poly) (i : Nat) : blockValue a 1 i = residue a i := by simp [blockValue]

theorem blockValue_all (a : Poly) {i : Nat} (hi : i < 64) :
    blockValue a 64 i = ∑ j : Lane, residue a j.val * evalPoint i ^ j.val := by
  rw [blockValue, Nat.div_eq_of_lt hi, Finset.sum_range]
  simp only [Nat.mul_zero, Nat.zero_add]

/-- R183 in Z_q. -/
theorem residue_nttPoly (a : Poly) (i : Lane) :
    residue (nttPoly a) i.val = ∑ j : Lane, residue a j.val * evalPoint i.val ^ j.val := by
  have hi := i.isLt
  rw [← blockValue_one, ← blockValue_all a hi]
  simp only [nttPoly, List.foldl_cons, List.foldl_nil]
  rw [blockValue_forwardLayer (len := 1) (by decide) hi, blockValue_forwardLayer (len := 2) (by decide) hi,
    blockValue_forwardLayer (len := 4) (by decide) hi, blockValue_forwardLayer (len := 8) (by decide) hi,
    blockValue_forwardLayer (len := 16) (by decide) hi, blockValue_forwardLayer (len := 32) (by decide) hi]

/-- Settles O24: a block's value at its points is the same before and after a layer, from one block of 64 lanes to 64 of one. -/
theorem nttEvaluatesAtTheOddPowers : Obligations.NttEvaluatesAtTheOddPowers := by
  intro a i _
  have hcast : (((nttPoly a).get i).toNat : ZMod Config.q) =
      ((∑ j : Lane, (a.get j).toNat * Config.psi ^ ((2 * brv6 i.val + 1) * j.val) : Nat) : ZMod Config.q) := by
    have h := residue_nttPoly a i
    simp only [residue_val, coefResidue, evalPoint, psiResidue, ← pow_mul] at h
    rw [h, Nat.cast_sum]
    simp only [Nat.cast_mul, Nat.cast_pow]
  exact (Nat.mod_eq_of_lt (nttPoly_canonical a i)).symm.trans ((ZMod.natCast_eq_natCast_iff' _ _ _).1 hcast)

end Sys2Proof.Machine
end

section
/-! PROOFS. The homomorphism law (43_ntt.md R190): at each point, whose power 64 is -1, the value of the ring product is the
product of the values; a lane-wise product is therefore the transform of the ring product, and INTT brings that back. -/

namespace Sys2Proof.Machine

/-- x ^ 64 = -1 at each point, so x ^ (i + j) is plus or minus the power of a lane (43_ntt.md R190). -/
theorem evalPoint_pow_64 (i : Nat) : evalPoint i ^ 64 = -1 := by
  rw [evalPoint, ← pow_mul, mul_comm, pow_mul, psiResidue_pow_64]
  exact Odd.neg_one_pow ⟨_, rfl⟩

/-- A term of the product stands in one lane of the ring product, with the sign of the wrap. -/
theorem sum_lanes_of_product_term {x : ZMod Config.q} (hx : x ^ 64 = -1) (y : ZMod Config.q) (i j : Lane) :
    (∑ m : Lane, (if i.val + j.val = m.val then y else if i.val + j.val = m.val + 64 then -y else 0) * x ^ m.val) =
      y * x ^ (i.val + j.val) := by
  have hi := i.isLt
  have hj := j.isLt
  by_cases h : i.val + j.val < 64
  · rw [Finset.sum_eq_single ⟨i.val + j.val, h⟩ _ (fun h' => absurd (Finset.mem_univ _) h'), if_pos rfl]
    intro m _ hm
    rw [if_neg (fun h' => hm (Fin.ext h'.symm)), if_neg (by omega), zero_mul]
  · have hpow : x ^ (i.val + j.val) = -x ^ (i.val + j.val - 64) := by
      rw [← neg_one_mul, ← hx, ← pow_add, Nat.add_sub_cancel' (by omega)]
    rw [Finset.sum_eq_single ⟨i.val + j.val - 64, by omega⟩ _ (fun h' => absurd (Finset.mem_univ _) h'),
      if_neg (by simp only; omega), if_pos (by simp only; omega), hpow, neg_mul_comm]
    intro m _ hm
    rw [if_neg (by omega), if_neg (fun h' => hm (Fin.ext (by simp only; omega))), zero_mul]

/-- The ring product's value at a point is the product of the values. -/
theorem ringProductCoef_value (p r : Poly) {x : ZMod Config.q} (hx : x ^ 64 = -1) :
    (∑ m : Lane, (ringProductCoef p r m : ZMod Config.q) * x ^ m.val) =
      (∑ i : Lane, residue p i.val * x ^ i.val) * ∑ j : Lane, residue r j.val * x ^ j.val := by
  have hcoef : ∀ m : Lane, (ringProductCoef p r m : ZMod Config.q) = ∑ i : Lane, ∑ j : Lane,
      if i.val + j.val = m.val then residue p i.val * residue r j.val
      else if i.val + j.val = m.val + 64 then -(residue p i.val * residue r j.val) else 0 := fun m => by
    simp only [ringProductCoef, residue_val, coefResidue]
    push_cast
    rfl
  calc (∑ m : Lane, (ringProductCoef p r m : ZMod Config.q) * x ^ m.val)
    _ = ∑ i : Lane, ∑ j : Lane, ∑ m : Lane, (if i.val + j.val = m.val then residue p i.val * residue r j.val
          else if i.val + j.val = m.val + 64 then -(residue p i.val * residue r j.val) else 0) * x ^ m.val := by
      simp only [hcoef, Finset.sum_mul]
      rw [Finset.sum_comm]
      exact Finset.sum_congr rfl fun i _ => Finset.sum_comm
    _ = ∑ i : Lane, ∑ j : Lane, residue p i.val * x ^ i.val * (residue r j.val * x ^ j.val) := by
      refine Finset.sum_congr rfl fun i _ => Finset.sum_congr rfl fun j _ => ?_
      rw [sum_lanes_of_product_term hx, pow_add]
      ring
    _ = _ := (Finset.sum_mul_sum _ _ _ _).symm

theorem lanes_reduce_canonical (v : Lane → Int) : CanonicalPoly (lanes fun m => reduce (v m)) := fun m => by
  rw [lanes_get]
  exact reduce_canonical _

/-- INTT finds the coefficients mod q from the values at the 64 points. -/
theorem inttPoly_get_of_values {b : Poly} (hb : CanonicalPoly b) (v : Lane → Int)
    (h : ∀ i : Lane, residue b i.val = ∑ m : Lane, (v m : ZMod Config.q) * evalPoint i.val ^ m.val) (m : Lane) :
    (((inttPoly b).get m).toNat : Int) = v m % 7681 := by
  have hntt : nttPoly (lanes fun m => reduce (v m)) = b := poly_eq_of_residue_eq (nttPoly_canonical _) hb fun k hk => by
    rw [residue_nttPoly _ ⟨k, hk⟩, h ⟨k, hk⟩]
    simp only [residue_lanes, coefResidue_reduce]
  rw [← hntt, (transformsRoundTrip _ (lanes_reduce_canonical v)).1, lanes_get]
  exact reduce_emod _

theorem residue_polyMul (a b : Poly) (k : Lane) : residue (polyMul a b) k.val = residue a k.val * residue b k.val := by
  rw [polyMul, residue_lanes, coefResidue_mulMod, residue_val, residue_val]

theorem residue_polyMac (c a b : Poly) (k : Lane) :
    residue (polyMac c a b) k.val = residue c k.val + residue a k.val * residue b k.val := by
  rw [polyMac, residue_lanes, coefResidue_macMod, residue_val, residue_val, residue_val]

theorem polyMul_canonical (a b : Poly) : CanonicalPoly (polyMul a b) := lanes_reduce_canonical _

theorem polyMac_canonical (c a b : Poly) : CanonicalPoly (polyMac c a b) := lanes_reduce_canonical _

/-- Settles O27: the lane-wise results are the values, at the 64 points, of the ring product and of the accumulated product. -/
theorem pointwiseProductIsTheRingProduct : Obligations.PointwiseProductIsTheRingProduct := by
  intro p r m _ _
  have hproduct : ∀ i : Lane, residue (nttPoly p) i.val * residue (nttPoly r) i.val =
      ∑ m : Lane, (ringProductCoef p r m : ZMod Config.q) * evalPoint i.val ^ m.val := fun i => by
    rw [residue_nttPoly, residue_nttPoly, ringProductCoef_value p r (evalPoint_pow_64 _)]
  constructor
  · exact inttPoly_get_of_values (polyMul_canonical _ _) (ringProductCoef p r)
      (fun i => (residue_polyMul _ _ i).trans (hproduct i)) m
  · intro c _
    refine inttPoly_get_of_values (polyMac_canonical _ _ _) (fun m => (c.get m).toNat + ringProductCoef p r m) (fun i => ?_) m
    rw [residue_polyMac, hproduct, residue_nttPoly, ← Finset.sum_add_distrib]
    refine Finset.sum_congr rfl fun m _ => ?_
    rw [← add_mul, residue_val, coefResidue, Int.cast_add, Int.cast_natCast]

end Sys2Proof.Machine
end

section
/-! PROOFS. Runs of the machine, what an engine step of a stream command keeps, and the 32 byte steps of CBD1 and CBD2
(44_samplers.md R204, R205). -/

namespace Sys2Proof.Machine

/-! ### Runs -/

theorem run_succ_of_step {M : Host.Core} {s s' : M.State} (h : M.step s = .next s') (N : Nat) :
    M.run (N + 1) s = M.run N s' := by
  rw [Host.Core.run, h]

/-- A predicate of the number of steps taken that holds at the start and that each step carries on holds after N steps, and
none of them stops. -/
theorem run_of_steps (N : Nat) {P : Nat → State → Prop} {s : State} (hstart : P 0 s)
    (hstep : ∀ n t, n < N → P n t → ∃ t', step t = .next t' ∧ P (n + 1) t') :
    ∃ t : State, Sys2Proof.core.run N s = .next t ∧ P N t := by
  induction N generalizing P s with
  | zero => exact ⟨s, rfl, hstart⟩
  | succ N ih =>
    obtain ⟨s', hs', hone⟩ := hstep 0 s N.succ_pos hstart
    obtain ⟨t, ht, hP⟩ := ih (P := fun n => P (n + 1)) hone fun n u hn => hstep (n + 1) u (Nat.succ_lt_succ hn)
    exact ⟨t, (run_succ_of_step (M := Sys2Proof.core) hs' N).trans ht, hP⟩

section
variable {s : State}

/-- An engine event while the command `i` is in flight. -/
theorem step_of_inFlight (hnext : s.nextEvent = .engine) (hbusy : s.busy = true) {i : Instr} (hcur : decode s.cur = .ok i) :
    step s = exec i s.advance := by
  rw [step, hnext, runEvent, engineStep, State.advance_busy, State.advance_cur, hcur]
  exact if_pos hbusy

/-- A byte step of a stream command (44_samplers.md R200). -/
theorem streamStep_of_byte (hdecoded : s.decoded = true) {b : Byte} {rest : List Byte} (hfifo : s.FIFO = b :: rest) {n : Nat}
    (hidx : s.idx + n ≤ 64) (f : Byte → State → State) : streamStep n f s = .next (f b { s with FIFO := rest }) := by
  rw [streamStep, if_pos hdecoded, hfifo]
  exact if_pos hidx

end

/-! ### What a stream command with the destination PR[d] keeps (44_samplers.md R200) -/

/-- What it keeps whatever the host does beside it: the data files but for PR[d], and the command in flight. -/
structure KeepsAllBut (d : Reg) (s t : State) : Prop where
  polys : SamePolysBut d s t
  scalars : t.S = s.S
  buf : t.BUF = s.BUF
  bufOrigin : t.bufOrigin = s.bufOrigin
  cur : t.cur = s.cur

/-- What its engine steps keep: the flags that no normal completion writes and the host's side too. -/
structure EngineKeeps (d : Reg) (s t : State) : Prop extends KeepsAllBut d s t where
  control : SameControl s t
  rdata : t.rdata = s.rdata
  script : t.script = s.script

section
variable {d : Reg} {s t u : State}

theorem KeepsAllBut.trans (hst : KeepsAllBut d s t) (htu : KeepsAllBut d t u) : KeepsAllBut d s u :=
  ⟨fun p hp => (htu.polys p hp).trans (hst.polys p hp), htu.scalars.trans hst.scalars, htu.buf.trans hst.buf,
    htu.bufOrigin.trans hst.bufOrigin, htu.cur.trans hst.cur⟩

theorem EngineKeeps.trans (hst : EngineKeeps d s t) (htu : EngineKeeps d t u) : EngineKeeps d s u := by
  obtain ⟨hst, ⟨e1, e2, e3, e4, e5, e6, e7⟩, hrdata, hscript⟩ := hst
  obtain ⟨htu, ⟨f1, f2, f3, f4, f5, f6, f7⟩, hrdata', hscript'⟩ := htu
  exact ⟨hst.trans htu, ⟨f1.trans e1, f2.trans e2, f3.trans e3, f4.trans e4, f5.trans e5, f6.trans e6, f7.trans e7⟩,
    hrdata'.trans hrdata, hscript'.trans hscript⟩

/-- The fields that a stream command moves beside its destination. -/
theorem engineKeeps_inFlight (d : Reg) (s : State) (fifo : List Byte) (busy done decoded : Bool) (acc : BitVec 20)
    (nb idx : Nat) (draws : Nat) :
    EngineKeeps d s { s with
      FIFO := fifo, busy := busy, done := done, decoded := decoded, acc := acc, nb := nb, idx := idx, draws := draws } :=
  ⟨⟨fun _ _ => rfl, rfl, rfl, rfl, rfl⟩, ⟨rfl, rfl, rfl, rfl, rfl, rfl, rfl⟩, rfl, rfl⟩

theorem EngineKeeps.refl (d : Reg) (s : State) : EngineKeeps d s s := engineKeeps_inFlight d s _ _ _ _ _ _ _ _

theorem State.setCoef_keeps (d : Reg) (s : State) (j : Nat) (v : Coef) : EngineKeeps d s (s.setCoef d j v) :=
  ⟨⟨fun p hp => s.setCoef_get_ne d j v p hp, rfl, rfl, rfl, rfl⟩, ⟨rfl, rfl, rfl, rfl, rfl, rfl, rfl⟩, rfl, rfl⟩

/-- Past the end of the schedule only the counter of draws moves on. -/
theorem State.advance_keeps (d : Reg) (h : s.script = []) : EngineKeeps d s s.advance :=
  ⟨⟨fun _ _ => rfl, rfl, rfl, rfl, rfl⟩, ⟨rfl, rfl, rfl, rfl, rfl, rfl, rfl⟩, rfl,
    by rw [State.advance_script, h, List.tail_nil]⟩

end

/-! ### The byte step of CBD1 and CBD2 -/

section
variable (value : Nat → Coef) (d : Reg) (b : Byte) (s : State)

theorem cbdByte_keeps : EngineKeeps d s (cbdByte value d b s) := by
  have hlanes := (s.setCoef_keeps d s.idx (value (nibble b 0))).trans
    (State.setCoef_keeps d _ (s.idx + 1) (value (nibble b 1)))
  unfold cbdByte
  dsimp only
  split
  · exact hlanes.trans (engineKeeps_inFlight d _ _ _ _ _ _ _ _ _)
  · exact hlanes.trans (engineKeeps_inFlight d _ _ _ _ _ _ _ _ _)

theorem cbdByte_FIFO : (cbdByte value d b s).FIFO = s.FIFO := by
  unfold cbdByte
  split <;> rfl

theorem cbdByte_idx : (cbdByte value d b s).idx = s.idx + 2 := by
  unfold cbdByte
  split <;> rfl

theorem cbdByte_get (j : Lane) :
    ((cbdByte value d b s).PR.get d).get j =
      if j.val = s.idx + 1 then Cell.ofWrite (value (nibble b 1))
      else if j.val = s.idx then Cell.ofWrite (value (nibble b 0)) else (s.PR.get d).get j := by
  have hPR : (cbdByte value d b s).PR =
      ((s.setCoef d s.idx (value (nibble b 0))).setCoef d (s.idx + 1) (value (nibble b 1))).PR := by
    unfold cbdByte
    split <;> rfl
  rw [hPR, State.setCoef_get, State.setCoef_get]
  simp only [true_and]

/-- Before its last byte the command stays in flight. -/
theorem cbdByte_of_more (h : s.idx + 2 ≠ 64) :
    (cbdByte value d b s).busy = s.busy ∧ (cbdByte value d b s).decoded = s.decoded := by
  unfold cbdByte
  rw [if_neg h]
  exact ⟨rfl, rfl⟩

/-- With its last byte the command completes. -/
theorem cbdByte_of_last (h : s.idx + 2 = 64) :
    (cbdByte value d b s).busy = false ∧ (cbdByte value d b s).done = true := by
  unfold cbdByte
  rw [if_pos h]
  exact ⟨rfl, rfl⟩

end

/-! ### The run of CBD1 and CBD2 -/

theorem streamNibble_lt (bs : List Byte) (j : Nat) : streamNibble bs j < 16 := Nat.mod_lt _ (by decide)

/-- The nibbles of byte n of a byte string are its nibbles 2n and 2n + 1. -/
theorem streamNibble_eq_nibble (bs : List Byte) {n : Nat} (hn : n < bs.length) {h : Nat} (hh : h < 2) :
    streamNibble bs (2 * n + h) = nibble bs[n] h := by
  have hdiv : (2 * n + h) / 2 = n := by omega
  have hmod : (2 * n + h) % 2 = h := by omega
  rw [streamNibble, nibble, hdiv, hmod, List.getD_eq_getElem _ _ hn, pow_mul]
  rfl

theorem cbd1Value_toNat : ∀ n < 16, (cbd1Value n).toNat = cbd1Table n := by decide

theorem cbd2Value_toNat : ∀ n < 16, (cbd2Value n).toNat = cbd2Table n := by decide

/-- The state `t` after n of the 32 byte steps on the bytes `bs` from the state `s`, with `rest` behind them in FIFO. -/
structure CbdAfter (value : Nat → Coef) (d : Reg) (bs rest : List Byte) (s : State) (n : Nat) (t : State) : Prop where
  keeps : EngineKeeps d s t
  fifo : t.FIFO = bs.drop n ++ rest
  idx : t.idx = 2 * n
  inFlight : n < 32 → t.busy = true ∧ t.decoded = true
  finished : n = 32 → t.busy = false ∧ t.done = true
  lanes : ∀ j : Lane, j.val < 2 * n → (t.PR.get d).get j = Cell.ofWrite (value (streamNibble bs j.val))

section
variable {value : Nat → Coef} {i : Instr} {d : Reg} {bs rest : List Byte} {s t : State} {n : Nat}

/-- The byte step on byte n, popped from FIFO, fills lanes 2n and 2n + 1. -/
theorem CbdAfter.byte (hn : n < 32) (hbyte : n < bs.length) {u : State} (hkeeps : EngineKeeps d s u)
    (hfifo : u.FIFO = bs.drop (n + 1) ++ rest) (hidx : u.idx = 2 * n) (hbusy : u.busy = true) (hdecoded : u.decoded = true)
    (hlanes : ∀ j : Lane, j.val < 2 * n → (u.PR.get d).get j = Cell.ofWrite (value (streamNibble bs j.val))) :
    CbdAfter value d bs rest s (n + 1) (cbdByte value d bs[n] u) := by
  refine ⟨hkeeps.trans (cbdByte_keeps ..), (cbdByte_FIFO ..).trans hfifo, ?_, fun hmore => ?_, fun hlast => ?_, fun j hj => ?_⟩
  · rw [cbdByte_idx, hidx, Nat.mul_succ]
  · obtain ⟨hb, hd⟩ := cbdByte_of_more value d bs[n] u (by omega)
    exact ⟨hb.trans hbusy, hd.trans hdecoded⟩
  · exact cbdByte_of_last value d bs[n] u (by omega)
  · rw [cbdByte_get, hidx]
    obtain hj' | hj' | hj' : j.val = 2 * n + 1 ∨ j.val = 2 * n ∨ j.val < 2 * n := by omega
    · rw [if_pos hj', hj', streamNibble_eq_nibble bs hbyte (by decide)]
    · rw [if_neg (by omega), if_pos hj', hj', ← Nat.add_zero (2 * n), streamNibble_eq_nibble bs hbyte (by decide)]
    · rw [if_neg (by omega), if_neg (by omega)]
      exact hlanes j hj'

theorem CbdAfter.next (hexec : ∀ u, exec i u = streamStep 2 (cbdByte value d) u) (hlen : bs.length = 32)
    (hscript : s.script = []) (hcur : decode s.cur = .ok i) (hn : n < 32) (h : CbdAfter value d bs rest s n t) :
    ∃ t', step t = .next t' ∧ CbdAfter value d bs rest s (n + 1) t' := by
  obtain ⟨hkeeps, hfifo, hidx, hinFlight, -, hlanes⟩ := h
  obtain ⟨hbusy, hdecoded⟩ := hinFlight hn
  have hend : t.script = [] := hkeeps.script.trans hscript
  have hnext : t.nextEvent = .engine := by rw [State.nextEvent, hend]
  have hbyte : n < bs.length := by omega
  have hpop : t.advance.FIFO = bs[n] :: (bs.drop (n + 1) ++ rest) := by
    rw [State.advance_FIFO, hfifo, List.drop_eq_getElem_cons hbyte, List.cons_append]
  have hstep := streamStep_of_byte (s := t.advance) hdecoded hpop (show t.idx + 2 ≤ 64 by omega) (cbdByte value d)
  refine ⟨_, ((step_of_inFlight hnext hbusy (hkeeps.cur ▸ hcur)).trans (hexec _)).trans hstep, ?_⟩
  exact CbdAfter.byte hn hbyte ((hkeeps.trans (t.advance_keeps d hend)).trans (engineKeeps_inFlight ..)) rfl hidx hbusy
    hdecoded hlanes

/-- The 32 steps of a fresh CBD1 or CBD2 with its bytes in FIFO. -/
theorem cbd_run {table : Nat → Nat} (hexec : ∀ u, exec i u = streamStep 2 (cbdByte value d) u)
    (htable : ∀ m < 16, (value m).toNat = table m) (hlen : bs.length = 32) (hfifo : s.FIFO = bs ++ rest)
    (hdecoded : s.decoded = true) (hscript : s.script = []) (hfresh : FreshStream i s) :
    ∃ t, Sys2Proof.core.run 32 s = .next t ∧ StreamFinished d (fun j => table (streamNibble bs j.val)) rest s t := by
  obtain ⟨hbusy, hcur, -, -, hidx⟩ := hfresh
  have hstart : CbdAfter value d bs rest s 0 s :=
    ⟨.refl d s, hfifo, hidx, fun _ => ⟨hbusy, hdecoded⟩, nofun, fun j hj => absurd hj (by omega)⟩
  obtain ⟨t, hrun, hkeeps, hrest, -, -, hfinished, hlanes⟩ := run_of_steps 32 hstart
    fun n u hn hu => hu.next hexec hlen hscript (hcur ▸ decode_encode i) hn
  obtain ⟨hidle, hdone⟩ := hfinished rfl
  refine ⟨t, hrun, hidle, hdone, ?_, fun j => ?_, hkeeps.polys, hkeeps.scalars, hkeeps.buf, hkeeps.bufOrigin, hkeeps.control,
    hkeeps.rdata, hkeeps.script⟩
  · rw [hrest, List.drop_eq_nil_of_le hlen.le, List.nil_append]
  · rw [hlanes j (by omega)]
    exact ⟨htable _ (streamNibble_lt bs j.val), rfl⟩

end

/-- Settles O31, by 32 byte steps, each of which fills the next two lanes from its byte's nibbles. -/
theorem cbdSamplesThirtyTwoBytes : Obligations.CbdSamplesThirtyTwoBytes := by
  intro d s bs rest hlen hfifo hdecoded hscript
  exact ⟨decode_encode (.cbd1 d), decode_encode (.cbd2 d),
    cbd_run (fun _ => rfl) cbd1Value_toNat hlen hfifo hdecoded hscript,
    cbd_run (fun _ => rfl) cbd2Value_toNat hlen hfifo hdecoded hscript⟩

end Sys2Proof.Machine
end

section
/-! PROOFS. The 13-bit chunks of a byte string (44_samplers.md R203, 20_memory.md R77), and SAMPU's in-flight fields as a function
of the bytes it has popped (R202). -/

namespace Sys2Proof.Machine

/-! ### The chunks of a byte string -/

/-- The number whose bits are a byte string's (20_memory.md R77). -/
def streamNumber (bs : List Byte) : Nat := joinFields 8 (bs.map BitVec.toNat)

/-- How many whole chunks a byte string has. -/
def wholeChunks (bs : List Byte) : Nat := 8 * bs.length / 13

theorem streamNumber_append (bs cs : List Byte) :
    streamNumber (bs ++ cs) = streamNumber bs + 2 ^ (8 * bs.length) * streamNumber cs := by
  induction bs with
  | nil => simp [streamNumber, joinFields]
  | cons b bs ih =>
    have hcons : ∀ ds, streamNumber (b :: ds) = b.toNat + 2 ^ 8 * streamNumber ds := fun _ => rfl
    rw [List.cons_append, hcons, hcons, ih, List.length_cons, Nat.mul_succ, pow_add]
    ring

theorem streamNumber_lt (bs : List Byte) : streamNumber bs < 2 ^ (8 * bs.length) := by
  induction bs with
  | nil => exact Nat.one_pos
  | cons b bs ih =>
    have hb : b.toNat < 2 ^ 8 := b.isLt
    have hcons : streamNumber (b :: bs) = b.toNat + 2 ^ 8 * streamNumber bs := rfl
    rw [hcons, List.length_cons, Nat.mul_succ, pow_add]
    omega

/-- A chunk that lies within the first bytes does not depend on the others. -/
theorem streamChunk_append {bs : List Byte} {m : Nat} (h : 13 * (m + 1) ≤ 8 * bs.length) (cs : List Byte) :
    streamChunk (bs ++ cs) m = streamChunk bs m := by
  obtain ⟨r, hr⟩ := Nat.exists_eq_add_of_le h
  have hsplit : streamNumber (bs ++ cs) = streamNumber bs + 2 ^ (13 * m) * (2 ^ 13 * (2 ^ r * streamNumber cs)) := by
    rw [streamNumber_append, hr, Nat.mul_succ, pow_add, pow_add]
    ring
  show streamNumber (bs ++ cs) / 2 ^ (13 * m) % 2 ^ 13 = streamNumber bs / 2 ^ (13 * m) % 2 ^ 13
  rw [hsplit, Nat.add_mul_div_left _ _ (Nat.two_pow_pos _), Nat.add_mul_mod_self_left]

theorem acceptedChunks_append {bs : List Byte} {n : Nat} (h : 13 * n ≤ 8 * bs.length) (cs : List Byte) :
    acceptedChunks (bs ++ cs) n = acceptedChunks bs n := by
  have hchunks : (List.range n).map (streamChunk (bs ++ cs)) = (List.range n).map (streamChunk bs) :=
    List.map_congr_left fun m hm => streamChunk_append (by have := List.mem_range.1 hm; omega) cs
  rw [acceptedChunks, hchunks, acceptedChunks]

theorem acceptedChunks_succ (bs : List Byte) (n : Nat) :
    acceptedChunks bs (n + 1) = acceptedChunks bs n ++ [streamChunk bs n].filter (· < 7681) := by
  simp only [acceptedChunks, List.range_succ, List.map_append, List.filter_append, List.map_cons, List.map_nil]

/-! ### ACC, NB, IDX and PR[D] after the bytes popped -/

/-- The first lanes of PR[d] hold the numbers `cs`, freshly written. -/
def HoldsChunks (d : Reg) (cs : List Nat) (s : State) : Prop :=
  ∀ j : Lane, j.val < cs.length →
    ((s.PR.get d).get j).val.toNat = cs.getD j.val 0 ∧ ((s.PR.get d).get j).origin = .written

/-- SAMPU's in-flight fields and destination after it has popped the bytes `bs`: ACC holds the bits past the last whole chunk. -/
structure Sampled (d : Reg) (bs : List Byte) (s : State) : Prop where
  nb : s.nb = 8 * bs.length % 13
  acc : s.acc.toNat = streamNumber bs / 2 ^ (13 * wholeChunks bs)
  idx : s.idx = (acceptedChunks bs (wholeChunks bs)).length
  lanes : HoldsChunks d (acceptedChunks bs (wholeChunks bs)) s

section
variable {d : Reg} {bs : List Byte} {s : State}

theorem State.offerChunk_nb (d : Reg) (c : Coef) (s : State) : (s.offerChunk d c).nb = s.nb := by
  unfold State.offerChunk
  split <;> rfl

theorem State.offerChunk_acc (d : Reg) (c : Coef) (s : State) : (s.offerChunk d c).acc = s.acc := by
  unfold State.offerChunk
  split <;> rfl

/-- A chunk that is offered is held behind the others when it is accepted, and leaves no trace when it is not. -/
theorem State.offerChunk_holds {cs : List Nat} (h : HoldsChunks d cs s) (hidx : s.idx = cs.length) (c : Coef) :
    (s.offerChunk d c).idx = (cs ++ [c.toNat].filter (· < 7681)).length ∧
      HoldsChunks d (cs ++ [c.toNat].filter (· < 7681)) (s.offerChunk d c) := by
  unfold State.offerChunk
  by_cases hc : c.toNat < 7681
  · rw [if_pos hc, List.filter_cons_of_pos (by simpa using hc), List.filter_nil]
    refine ⟨by rw [List.length_append, ← hidx]; rfl, fun j hj => ?_⟩
    have hget := s.setCoef_get d s.idx c d j
    simp only [true_and] at hget
    show ((((s.setCoef d s.idx c).PR.get d).get j).val.toNat = _ ∧ (((s.setCoef d s.idx c).PR.get d).get j).origin = _)
    rw [hget]
    by_cases hj' : j.val = s.idx
    · rw [if_pos hj', hj', hidx]
      exact ⟨by simp [Cell.ofWrite], rfl⟩
    · have hlt : j.val < cs.length := by rw [List.length_append, List.length_singleton] at hj; omega
      rw [if_neg hj', List.getD_append _ _ _ _ hlt]
      exact h j hlt
  · rw [if_neg hc, List.filter_cons_of_neg (by simpa using hc), List.filter_nil, List.append_nil]
    exact ⟨hidx, h⟩

theorem Sampled.acc_lt (h : Sampled d bs s) : s.acc.toNat < 2 ^ s.nb := by
  rw [h.acc, h.nb, Nat.div_lt_iff_lt_mul (Nat.two_pow_pos _), ← pow_add, wholeChunks, Nat.mod_add_div]
  exact streamNumber_lt bs

/-- The byte enters ACC above its valid bits. -/
theorem Sampled.accumulate_acc_toNat (h : Sampled d bs s) (b : Byte) :
    (s.accumulate b).acc.toNat = streamNumber (bs ++ [b]) / 2 ^ (13 * wholeChunks bs) := by
  have hnb : s.nb < 13 := h.nb ▸ Nat.mod_lt _ (by decide)
  have hlen : 8 * bs.length = 13 * wholeChunks bs + s.nb := by rw [h.nb, wholeChunks, Nat.div_add_mod]
  have hshift : b.toNat <<< s.nb < 2 ^ 20 := by
    rw [Nat.shiftLeft_eq]
    calc b.toNat * 2 ^ s.nb < 2 ^ 8 * 2 ^ s.nb := Nat.mul_lt_mul_of_pos_right b.isLt (Nat.two_pow_pos _)
      _ = 2 ^ (8 + s.nb) := (pow_add ..).symm
      _ ≤ 2 ^ 20 := Nat.pow_le_pow_right (by decide) (by omega)
  have hbyte : (b.zeroExtend 20 <<< s.nb).toNat = 2 ^ s.nb * b.toNat := by
    rw [BitVec.toNat_shiftLeft, BitVec.toNat_setWidth, Nat.mod_eq_of_lt (lt_trans b.isLt (by decide)),
      Nat.mod_eq_of_lt hshift, Nat.shiftLeft_eq, Nat.mul_comm]
  have hone : streamNumber [b] = b.toNat := rfl
  rw [State.accumulate_acc, BitVec.toNat_or, hbyte, Nat.or_comm, ← Nat.two_pow_add_eq_or_of_lt h.acc_lt, streamNumber_append, hlen,
    pow_add, Nat.mul_assoc, Nat.add_mul_div_left _ _ (Nat.two_pow_pos _), h.acc, hone, Nat.add_comm]

/-- The byte step before its end: the byte enters ACC, and the next chunk, if it is whole, leaves ACC and is offered. -/
theorem Sampled.takeChunk (h : Sampled d bs s) (b : Byte) : Sampled d (bs ++ [b]) ((s.accumulate b).takeChunk d) := by
  have hnb := h.nb
  have hacc := h.accumulate_acc_toNat b
  have hbits : 8 * (bs ++ [b]).length = 8 * bs.length + 8 := by rw [List.length_append, List.length_singleton, Nat.mul_succ]
  have haccepted : acceptedChunks (bs ++ [b]) (wholeChunks bs) = acceptedChunks bs (wholeChunks bs) :=
    acceptedChunks_append (Nat.mul_div_le _ _) _
  unfold State.takeChunk
  by_cases hfull : 13 ≤ (s.accumulate b).nb
  · have hcount : wholeChunks (bs ++ [b]) = wholeChunks bs + 1 := by
      rw [State.accumulate_nb] at hfull
      rw [wholeChunks, wholeChunks, hbits]
      omega
    have hchunk : ((s.accumulate b).acc.setWidth 13 : Coef).toNat = streamChunk (bs ++ [b]) (wholeChunks bs) := by
      rw [BitVec.toNat_setWidth, hacc]
      rfl
    obtain ⟨hidx, hlanes⟩ := State.offerChunk_holds (s := (s.accumulate b).dropChunk) h.lanes h.idx
      ((s.accumulate b).acc.setWidth 13)
    rw [hchunk, ← haccepted, ← acceptedChunks_succ, ← hcount] at hidx hlanes
    rw [if_pos hfull]
    refine ⟨?_, ?_, hidx, hlanes⟩
    · rw [State.offerChunk_nb, State.dropChunk_nb, State.accumulate_nb]
      rw [State.accumulate_nb] at hfull
      omega
    · rw [State.offerChunk_acc, State.dropChunk_acc, BitVec.toNat_ushiftRight, Nat.shiftRight_eq_div_pow, hacc,
        Nat.div_div_eq_div_mul, ← pow_add, hcount, Nat.mul_succ]
  · have hcount : wholeChunks (bs ++ [b]) = wholeChunks bs := by
      rw [State.accumulate_nb] at hfull
      rw [wholeChunks, wholeChunks, hbits]
      omega
    rw [if_neg hfull]
    refine ⟨?_, ?_, ?_, ?_⟩
    · rw [State.accumulate_nb] at hfull ⊢
      omega
    · rw [hcount, hacc]
    · rw [hcount, haccepted]
      exact h.idx
    · rw [hcount, haccepted]
      exact h.lanes

end

/-! ### A whole byte step -/

/-- SAMPU after it has popped the bytes `bs` (R203): in flight with fewer than 64 coefficients, DONE as it was, or completed in the
byte that ends the chunk m of its 64th coefficient. -/
def SampuPhase (d : Reg) (done : Bool) (bs : List Byte) (s : State) : Prop :=
  (s.busy = true ∧ s.done = done ∧ Sampled d bs s ∧ s.idx < 64) ∨
    (s.busy = false ∧ s.done = true ∧ ∃ m, bs.length = (13 * (m + 1) + 7) / 8 ∧ (acceptedChunks bs (m + 1)).length = 64 ∧
      (acceptedChunks bs m).length < 64 ∧ HoldsChunks d (acceptedChunks bs (m + 1)) s)

theorem SampuPhase.of_busy {d : Reg} {done : Bool} {bs : List Byte} {s : State} (h : SampuPhase d done bs s)
    (hbusy : s.busy = true) : s.done = done ∧ Sampled d bs s ∧ s.idx < 64 := by
  obtain ⟨-, h⟩ | ⟨hidle, -⟩ := h
  · exact h
  · exact absurd hbusy (hidle ▸ Bool.false_ne_true)

section
variable (d : Reg) (b : Byte) (s : State)

theorem State.takeChunk_keeps : EngineKeeps d s (s.takeChunk d) := by
  unfold State.takeChunk State.offerChunk
  split
  · split
    · exact ((engineKeeps_inFlight ..).trans (State.setCoef_keeps d s.dropChunk _ _)).trans (engineKeeps_inFlight ..)
    · exact engineKeeps_inFlight ..
  · exact .refl d s

theorem State.takeChunk_control : (s.takeChunk d).FIFO = s.FIFO ∧ (s.takeChunk d).busy = s.busy ∧
    (s.takeChunk d).done = s.done ∧ (s.takeChunk d).decoded = s.decoded := by
  unfold State.takeChunk State.offerChunk
  split
  · split <;> exact ⟨rfl, rfl, rfl, rfl⟩
  · exact ⟨rfl, rfl, rfl, rfl⟩

theorem State.takeChunk_idx_le : (s.takeChunk d).idx ≤ s.idx + 1 := by
  unfold State.takeChunk State.offerChunk
  split
  · split
    · exact Nat.le_refl _
    · exact Nat.le_succ _
  · exact Nat.le_succ _

theorem State.finishSampu_of_more {s : State} (h : s.idx ≠ 64) : s.finishSampu = s := if_neg h

theorem State.finishSampu_of_last {s : State} (h : s.idx = 64) : s.finishSampu = { s with acc := 0, nb := 0 }.complete :=
  if_pos h

theorem sampuByte_keeps : EngineKeeps d s (sampuByte d b s) := by
  have htake : EngineKeeps d s ((s.accumulate b).takeChunk d) :=
    (engineKeeps_inFlight ..).trans ((s.accumulate b).takeChunk_keeps d)
  unfold sampuByte
  by_cases h : ((s.accumulate b).takeChunk d).idx = 64
  · rw [State.finishSampu_of_last h]
    exact htake.trans (engineKeeps_inFlight ..)
  · rwa [State.finishSampu_of_more h]

theorem sampuByte_FIFO : (sampuByte d b s).FIFO = s.FIFO := by
  obtain ⟨hfifo, -⟩ := (s.accumulate b).takeChunk_control d
  unfold sampuByte
  by_cases h : ((s.accumulate b).takeChunk d).idx = 64
  · rw [State.finishSampu_of_last h]
    exact hfifo
  · rwa [State.finishSampu_of_more h]

/-- A byte step that leaves the command in flight leaves it past its decode step. -/
theorem sampuByte_decoded (hbusy : (sampuByte d b s).busy = true) : (sampuByte d b s).decoded = s.decoded := by
  obtain ⟨-, -, -, hdecoded⟩ := (s.accumulate b).takeChunk_control d
  unfold sampuByte at hbusy ⊢
  by_cases h : ((s.accumulate b).takeChunk d).idx = 64
  · rw [State.finishSampu_of_last h] at hbusy
    exact absurd hbusy Bool.false_ne_true
  · rwa [State.finishSampu_of_more h]

end

/-- The byte that brings the 64th coefficient ends a chunk and holds no whole chunk more. -/
theorem exists_last_chunk {bs : List Byte} (b : Byte) (hbefore : (acceptedChunks bs (wholeChunks bs)).length < 64)
    (hafter : (acceptedChunks (bs ++ [b]) (wholeChunks (bs ++ [b]))).length = 64) :
    ∃ m, wholeChunks (bs ++ [b]) = m + 1 ∧ (bs ++ [b]).length = (13 * (m + 1) + 7) / 8 ∧
      (acceptedChunks (bs ++ [b]) m).length < 64 := by
  have hlen : (bs ++ [b]).length = bs.length + 1 := List.length_append
  have hold : acceptedChunks (bs ++ [b]) (wholeChunks bs) = acceptedChunks bs (wholeChunks bs) :=
    acceptedChunks_append (Nat.mul_div_le _ _) _
  have hne : wholeChunks (bs ++ [b]) ≠ wholeChunks bs := fun heq => by
    rw [heq, hold] at hafter
    omega
  refine ⟨wholeChunks bs, ?_, ?_, by rwa [hold]⟩
  · rw [wholeChunks, wholeChunks, hlen] at hne ⊢
    omega
  · rw [wholeChunks, wholeChunks, hlen] at hne
    rw [wholeChunks, hlen]
    omega

/-- A byte step of a SAMPU in flight (R202). -/
theorem Sampled.sampuByte {d : Reg} {bs : List Byte} {s : State} (h : Sampled d bs s) (hidx : s.idx < 64)
    (hbusy : s.busy = true) (b : Byte) : SampuPhase d s.done (bs ++ [b]) (sampuByte d b s) := by
  have htake := h.takeChunk b
  obtain ⟨-, hbusy', hdone', -⟩ := (s.accumulate b).takeChunk_control d
  have hle : ((s.accumulate b).takeChunk d).idx ≤ s.idx + 1 := State.takeChunk_idx_le d (s.accumulate b)
  unfold Machine.sampuByte
  by_cases hlast : ((s.accumulate b).takeChunk d).idx = 64
  · have hafter := htake.idx.symm.trans hlast
    obtain ⟨m, hcount, hlen, hfew⟩ := exists_last_chunk b (h.idx ▸ hidx) hafter
    rw [hcount] at hafter
    rw [State.finishSampu_of_last hlast]
    exact .inr ⟨rfl, rfl, m, hlen, hafter, hfew, hcount ▸ htake.lanes⟩
  · rw [State.finishSampu_of_more hlast]
    exact .inl ⟨hbusy'.trans hbusy, hdone', htake, by omega⟩

end Sys2Proof.Machine
end

section
/-! PROOFS. SAMPU under any schedule of engine steps, host reads and pushes (44_samplers.md R203, 20_memory.md R69): every step
pops the next byte of the coming stream or leaves the command as it is. -/

namespace Sys2Proof.Machine

/-! ### What a step does to SAMPU and to its coming stream -/

/-- The data files, the command in flight and SAMPU's fields are as before. -/
structure SampuQuiet (s t : State) : Prop where
  scalars : t.S = s.S
  polys : t.PR = s.PR
  buf : t.BUF = s.BUF
  bufOrigin : t.bufOrigin = s.bufOrigin
  cur : t.cur = s.cur
  busy : t.busy = s.busy
  done : t.done = s.done
  acc : t.acc = s.acc
  nb : t.nb = s.nb
  idx : t.idx = s.idx

/-- A step while SAMPU runs: it leaves the command as it is, and the coming stream too unless a push is dropped, or it is the
byte step on the first byte of the coming stream. -/
inductive SampuMove (d : Reg) (s : State) : State → Prop
  | quiet {t : State} (fields : SampuQuiet s t) (stream : t.sovf = false → s.sovf = false ∧ comingStream t = comingStream s) :
      SampuMove d s t
  | byte {b : Byte} {u : State} (fields : SampuQuiet s u) (busy : s.busy = true) (sovf : u.sovf = s.sovf)
      (stream : comingStream s = b :: comingStream u) : SampuMove d s (sampuByte d b u)

/-- The engine steps that a stream command in flight takes before FIFO is empty, if it does not complete and nothing is pushed. -/
def State.pending (s : State) : Nat := if s.busy then s.FIFO.length + (if s.decoded then 0 else 1) else 0

/-- The fields that the host and the command's decode step move. -/
theorem sampuQuiet_fields (s : State) (fifo : List Byte) (sovf decoded : Bool) (rdata : Word) (script : List Event)
    (draws : Nat) :
    SampuQuiet s { s with
      FIFO := fifo, sovf := sovf, decoded := decoded, rdata := rdata, script := script, draws := draws } :=
  ⟨rfl, rfl, rfl, rfl, rfl, rfl, rfl, rfl, rfl, rfl⟩

theorem SampuQuiet.keeps {s t : State} (h : SampuQuiet s t) (d : Reg) : KeepsAllBut d s t :=
  ⟨fun p _ => by rw [h.polys], h.scalars, h.buf, h.bufOrigin, h.cur⟩

theorem SampuQuiet.sampled {s t : State} (h : SampuQuiet s t) {d : Reg} {bs : List Byte} (hs : Sampled d bs s) :
    Sampled d bs t := by
  obtain ⟨hnb, hacc, hidx, hlanes⟩ := hs
  refine ⟨h.nb.trans hnb, by rw [h.acc, hacc], h.idx.trans hidx, ?_⟩
  rwa [HoldsChunks, h.polys]

theorem SampuQuiet.phase {s t : State} (h : SampuQuiet s t) {d : Reg} {done : Bool} {bs : List Byte}
    (hs : SampuPhase d done bs s) : SampuPhase d done bs t := by
  obtain ⟨hbusy, hdone, hsampled, hidx⟩ | ⟨hidle, hdone, m, hlen, hall, hfew, hlanes⟩ := hs
  · exact .inl ⟨h.busy.trans hbusy, h.done.trans hdone, h.sampled hsampled, h.idx ▸ hidx⟩
  · exact .inr ⟨h.busy.trans hidle, h.done.trans hdone, m, hlen, hall, hfew, by rwa [HoldsChunks, h.polys]⟩

/-! ### The coming stream -/

section
variable {s : State}

/-- What the next event pushes comes behind FIFO. -/
theorem comingStream_eq (s : State) :
    comingStream s = s.FIFO ++ (pushedBytes s.nextEvent ++ s.advance.script.flatMap pushedBytes) := by
  rw [comingStream, State.nextEvent, State.advance_script]
  cases s.script with
  | nil => rfl
  | cons e es => rw [List.flatMap_cons, List.tail_cons]

theorem comingStream_advance (h : pushedBytes s.nextEvent = []) : comingStream s.advance = comingStream s := by
  rw [comingStream_eq s, h, List.nil_append]
  rfl

/-- A push with room moves four bytes of the coming stream into FIFO (10_state.md R34). -/
theorem comingStream_push {a : BitVec 12} {w : Word} (h : s.nextEvent = .hostWrite a w) (hroom : s.FIFO.length ≤ 60) :
    comingStream (s.advance.pushStream w) = comingStream s := by
  rw [comingStream_eq s, h, State.pushStream_of_room s.advance w hroom, bytesOfWord_eq_ofNat, ← List.append_assoc]
  rfl

theorem FeedingSchedule.nextEvent (h : FeedingSchedule s.script) :
    s.nextEvent = .engine ∨ (∃ a, s.nextEvent = .hostRead a) ∨ ∃ w, s.nextEvent = .hostWrite (atByte 0x018) w := by
  unfold State.nextEvent
  split
  · exact .inl rfl
  · next e es hscript => exact h e (hscript ▸ List.mem_cons_self)

end

/-! ### The three kinds of step -/

section
variable {s : State} {d : Reg}

theorem sampu_engine_move (hnext : s.nextEvent = .engine) (hcur : decode s.cur = .ok (.sampu d))
    (hidx : s.busy = true → s.idx < 64) :
    ∃ t, step s = .next t ∧ SampuMove d s t ∧ t.script = s.script.tail ∧ t.pending ≤ s.pending - 1 := by
  have hstream : comingStream s.advance = comingStream s := comingStream_advance (by rw [hnext]; rfl)
  cases hbusy : s.busy with
  | false =>
    refine ⟨s.advance, ?_, .quiet (sampuQuiet_fields ..) fun h => ⟨h, hstream⟩, rfl, ?_⟩
    · rw [step, hnext, runEvent, engineStep, State.advance_busy, hbusy, if_neg Bool.false_ne_true]
    · rw [State.pending, State.advance_busy, hbusy, if_neg Bool.false_ne_true]
      exact Nat.zero_le _
  | true =>
    have hpending : s.pending = s.FIFO.length + (if s.decoded then 0 else 1) := if_pos hbusy
    have hstep : step s = streamStep 1 (sampuByte d) s.advance := step_of_inFlight hnext hbusy hcur
    rw [hstep, hpending]
    obtain ⟨hd, e⟩ | ⟨hd, hfifo, e⟩ | ⟨b, rest, hd, hfifo, -, e⟩ | ⟨b, rest, -, -, hlane, -⟩ :=
      streamStep_cases 1 (sampuByte d) s.advance
    · refine ⟨_, e, .quiet (sampuQuiet_fields ..) fun h => ⟨h, hstream⟩, rfl, ?_⟩
      rw [show s.decoded = false from hd]
      exact (if_pos hbusy).le
    · refine ⟨_, e, .quiet (sampuQuiet_fields ..) fun h => ⟨h, hstream⟩, rfl, ?_⟩
      rw [State.pending, hfifo, hd]
      split <;> exact Nat.zero_le _
    · have hpop : comingStream s = b :: comingStream { s.advance with FIFO := rest } := by
        rw [← hstream, comingStream, hfifo]
        rfl
      refine ⟨_, e, .byte (sampuQuiet_fields ..) hbusy rfl hpop, (sampuByte_keeps ..).script, ?_⟩
      rw [show s.decoded = true from hd, show s.FIFO = b :: rest from hfifo, State.pending, sampuByte_FIFO]
      split
      · next hb =>
        rw [sampuByte_decoded d b _ hb, show s.advance.decoded = true from hd]
        exact Nat.le_refl _
      · exact Nat.zero_le _
    · exact absurd (hidx hbusy) (by rw [State.advance_idx] at hlane; omega)

theorem sampu_read_move {a : BitVec 12} (hnext : s.nextEvent = .hostRead a) :
    ∃ t, step s = .next t ∧ SampuMove d s t ∧ t.script = s.script.tail := by
  refine ⟨s.advance.hostRead a, by rw [step, hnext, runEvent], .quiet (sampuQuiet_fields ..) fun h => ⟨h, ?_⟩, rfl⟩
  exact comingStream_advance (by rw [hnext]; rfl)

theorem sampu_push_move {w : Word} (hnext : s.nextEvent = .hostWrite (atByte 0x018) w) :
    ∃ t, step s = .next t ∧ SampuMove d s t ∧ t.script = s.script.tail := by
  have hstep : step s = .next (s.advance.pushStream w) := by rw [step, hnext, runEvent, State.hostWrite_streamIn]
  by_cases hroom : s.FIFO.length ≤ 60
  · have hstream := comingStream_push hnext hroom
    rw [State.pushStream_of_room s.advance w hroom] at hstep hstream
    exact ⟨_, hstep, .quiet (sampuQuiet_fields ..) fun h => ⟨h, hstream⟩, rfl⟩
  · rw [State.pushStream_of_full s.advance w (Nat.lt_of_not_le hroom)] at hstep
    exact ⟨_, hstep, .quiet (sampuQuiet_fields ..) nofun, rfl⟩

/-- A step of a feeding schedule, past whose end only the engine moves. -/
theorem sampu_move (hfeed : FeedingSchedule s.script) (hcur : decode s.cur = .ok (.sampu d))
    (hidx : s.busy = true → s.idx < 64) :
    ∃ t, step s = .next t ∧ SampuMove d s t ∧ t.script = s.script.tail ∧ (s.script = [] → t.pending ≤ s.pending - 1) := by
  obtain hnext | ⟨a, hnext⟩ | ⟨w, hnext⟩ := hfeed.nextEvent
  · obtain ⟨t, hstep, hmove, hscript, hpending⟩ := sampu_engine_move hnext hcur hidx
    exact ⟨t, hstep, hmove, hscript, fun _ => hpending⟩
  · obtain ⟨t, hstep, hmove, hscript⟩ := sampu_read_move (d := d) hnext
    exact ⟨t, hstep, hmove, hscript, fun hend => by simp [State.nextEvent, hend] at hnext⟩
  · obtain ⟨t, hstep, hmove, hscript⟩ := sampu_push_move (d := d) hnext
    exact ⟨t, hstep, hmove, hscript, fun hend => by simp [State.nextEvent, hend] at hnext⟩

end

/-! ### The run of SAMPU -/

/-- The state `t` after n steps from the state `s` with a fresh SAMPU: the bytes popped and the coming stream are the stream that
was coming, unless a push was dropped, and past the schedule's end each step brings FIFO's end nearer. -/
structure SampuAfter (d : Reg) (s : State) (n : Nat) (t : State) : Prop where
  keeps : KeepsAllBut d s t
  script : t.script = s.script.drop n
  popped : ∃ bs, SampuPhase d s.done bs t ∧ (t.sovf = false → bs ++ comingStream t = comingStream s)
  pending : t.sovf = false → t.pending ≤ (comingStream s).length + 1 - (n - s.script.length)

section
variable {d : Reg} {s t u : State} {n : Nat}

theorem State.pending_le (s : State) : s.pending ≤ (comingStream s).length + 1 := by
  have hfifo : s.FIFO.length ≤ (comingStream s).length := by rw [comingStream, List.length_append]; exact Nat.le_add_right _ _
  unfold State.pending
  split
  · split <;> omega
  · exact Nat.zero_le _

/-- What a step makes of the bytes popped. -/
theorem SampuMove.popped {done : Bool} {bs : List Byte} (h : SampuMove d t u) (hphase : SampuPhase d done bs t) :
    KeepsAllBut d t u ∧ (u.sovf = false → t.sovf = false) ∧
      ∃ bs', SampuPhase d done bs' u ∧ (u.sovf = false → bs' ++ comingStream u = bs ++ comingStream t) := by
  cases h with
  | quiet hquiet hstream =>
    exact ⟨hquiet.keeps d, fun h => (hstream h).1, bs, hquiet.phase hphase, fun h => by rw [(hstream h).2]⟩
  | @byte b v hquiet hbusy hsovf hstream =>
    have hkeeps := sampuByte_keeps d b v
    obtain ⟨-, -, hsovf', -⟩ := hkeeps.control
    obtain ⟨hdone, hsampled, hidx⟩ := hphase.of_busy hbusy
    refine ⟨(hquiet.keeps d).trans hkeeps.toKeepsAllBut, fun h => ?_, bs ++ [b], ?_, fun _ => ?_⟩
    · rw [← hsovf, ← hsovf', h]
    · have hbyte := (hquiet.sampled hsampled).sampuByte (hquiet.idx ▸ hidx) (hquiet.busy.trans hbusy) b
      rwa [hquiet.done, hdone] at hbyte
    · rw [hstream, comingStream, sampuByte_FIFO, hkeeps.script, List.append_assoc]
      rfl

theorem SampuAfter.next (hcur : decode s.cur = .ok (.sampu d)) (hfeed : FeedingSchedule s.script)
    (h : SampuAfter d s n t) : ∃ t', step t = .next t' ∧ SampuAfter d s (n + 1) t' := by
  obtain ⟨hkeeps, hscript, ⟨bs, hphase, hstream⟩, hpending⟩ := h
  have hidx : t.busy = true → t.idx < 64 := fun hbusy =>
    let ⟨_, _, hidx⟩ := hphase.of_busy hbusy
    hidx
  have hfeed' : FeedingSchedule t.script := fun e he => hfeed e (List.mem_of_mem_drop (hscript ▸ he))
  obtain ⟨t', hstep, hmove, hscript', hpending'⟩ := sampu_move hfeed' (hkeeps.cur ▸ hcur) hidx
  obtain ⟨hkeeps', hsovf, bs', hphase', hstream'⟩ := hmove.popped hphase
  have hcoming : t'.sovf = false → bs' ++ comingStream t' = comingStream s := fun h =>
    (hstream' h).trans (hstream (hsovf h))
  refine ⟨t', hstep, hkeeps.trans hkeeps', ?_, ⟨bs', hphase', hcoming⟩, fun h => ?_⟩
  · rw [hscript', hscript, List.tail_drop]
  · by_cases hend : s.script.length ≤ n
    · have hbound := hpending (hsovf h)
      have hless := hpending' (by rw [hscript, List.drop_eq_nil_of_le hend])
      omega
    · have hbound := t'.pending_le
      rw [← hcoming h, List.length_append]
      omega

theorem sampuAfter_zero (hfresh : FreshStream (.sampu d) s) : SampuAfter d s 0 s := by
  obtain ⟨hbusy, -, hacc, hnb, hidx⟩ := hfresh
  have hsampled : Sampled d [] s := ⟨hnb, by rw [hacc]; rfl, hidx, fun j hj => absurd hj (Nat.not_lt_zero _)⟩
  refine ⟨⟨fun _ _ => rfl, rfl, rfl, rfl, rfl⟩, rfl, ⟨[], .inl ⟨hbusy, rfl, hsampled, by omega⟩, fun _ => rfl⟩, fun _ => ?_⟩
  rw [Nat.zero_sub]
  exact s.pending_le

end

/-- Settles O32, by the invariant of n steps: the bytes popped are the first of the coming stream, and they decide its chunks that
lie within them. -/
theorem sampuIsAFunctionOfItsStream : Obligations.SampuIsAFunctionOfItsStream := by
  intro d s k hfresh hfeed
  have hcur : decode s.cur = .ok (.sampu d) := by
    obtain ⟨-, hcur, -⟩ := hfresh
    rw [hcur, decode_encode]
  obtain ⟨t, hrun, hkeeps, hscript, ⟨bs, hphase, hstream⟩, hpending⟩ := run_of_steps (s.script.length + k)
    (sampuAfter_zero hfresh) fun n u _ hu => hu.next hcur hfeed
  refine ⟨t, hrun, hkeeps.polys, hkeeps.scalars, hkeeps.buf, hkeeps.bufOrigin, fun hsovf => ⟨bs.length, ?_⟩⟩
  have hcoming : comingStream t = t.FIFO := by
    rw [comingStream, hscript, List.drop_eq_nil_of_le (Nat.le_add_right _ _), List.flatMap_nil, List.append_nil]
  have hpending := hpending hsovf
  rw [← hstream hsovf, hcoming] at hpending ⊢
  refine ⟨by rw [List.length_append]; exact Nat.le_add_right _ _, (List.drop_left ..).symm, ?_⟩
  obtain ⟨hbusy, hdone, hsampled, hidx⟩ | ⟨hidle, hdone, m, hlen, hall, hfew, hlanes⟩ := hphase
  · refine .inl ⟨hbusy, hdone, ?_, fun hk => ?_⟩
    · rw [acceptedChunks_append (Nat.mul_div_le _ _)]
      exact hsampled.idx ▸ hidx
    · have hfifo : t.FIFO.length ≤ t.pending := by rw [State.pending, if_pos hbusy]; exact Nat.le_add_right _ _
      have hlen : (bs ++ t.FIFO).length = bs.length + t.FIFO.length := List.length_append
      omega
  · refine .inr ⟨hidle, hdone, m, hlen, ?_⟩
    rw [acceptedChunks_append (by omega), acceptedChunks_append (by omega)]
    exact ⟨hall, hfew, fun j => hlanes j (j.isLt.trans_eq hall.symm)⟩

end Sys2Proof.Machine
end

section
/-! PROOFS. Compression and decompression as numbers (45_codec.md R231, R232, R240): each is the floor of an exact quotient plus a
half, and a round trip's error is the sum of the two roundings'. -/

namespace Sys2Proof.Machine

/-! ### Rounding a quotient to the nearest integer -/

theorem floor_div_add_half (n : Nat) {m : Nat} (hm : 0 < m) :
    ⌊((n : ℚ) / m + 1 / 2)⌋ = (((2 * n + m) / (2 * m) : Nat) : Int) := by
  have hsum : (n : ℚ) / m + 1 / 2 = ((2 * n + m : Nat) : ℚ) / ((2 * m : Nat) : ℚ) := by
    push_cast
    field_simp
  rw [hsum, Rat.floor_natCast_div_natCast, Int.natCast_ediv]

/-- A quotient is a half-integer when twice it is an odd integer. -/
theorem div_eq_add_half_iff (n : Nat) {m : Nat} (hm : 0 < m) (k : Int) :
    (n : ℚ) / m = k + 1 / 2 ↔ (2 * n : Int) = (2 * k + 1) * m := by
  have hm' : (m : ℚ) ≠ 0 := Nat.cast_ne_zero.2 hm.ne'
  rw [← @Int.cast_inj ℚ, div_eq_iff hm']
  push_cast
  constructor
  · intro h
    linarith
  · intro h
    linarith

/-! ### compress_d -/

/-- The quotient of R231 before it is reduced mod 2^d is exact rounding. -/
theorem floor_compress_quotient (n : Nat) : ⌊((n : ℚ) / 7681 + 1 / 2)⌋ = (((n + 3840) / 7681 : Nat) : Int) := by
  have h := floor_div_add_half n (show 0 < 7681 by decide)
  rw [show (2 * n + 7681) / (2 * 7681) = (n + 3840) / 7681 by omega] at h
  exact_mod_cast h

/-- An odd divisor leaves no tie (45_codec.md R231). -/
theorem div_q_ne_add_half (n : Nat) (k : Int) : (n : ℚ) / 7681 ≠ k + 1 / 2 := by
  intro h
  have hodd := (div_eq_add_half_iff n (show 0 < 7681 by decide) k).1 (by exact_mod_cast h)
  omega

/-- The values within half of q of the wrap round to 2^d. -/
theorem compress_eq_zero (d : Nat) {x : Nat} (hx : x ≤ 7681) (hwrap : 2 ^ d * (7681 - x) ≤ 3840) : compress d x = 0 := by
  have hle := Nat.mul_le_mul_left (2 ^ d) hx
  rw [Nat.mul_sub] at hwrap
  have hquot : (2 ^ d * x + 3840) / Config.q = 2 ^ d :=
    Nat.div_eq_of_lt_le (show 2 ^ d * 7681 ≤ _ by omega) (show _ < (2 ^ d + 1) * 7681 by omega)
  rw [compress, hquot, Nat.mod_self]

/-- Settles O39: the rounding of 2^d·x by the odd divisor q has no tie, and the greatest values round to 2^d. -/
theorem compressIsExactRounding : Obligations.CompressIsExactRounding := by
  intro x hx
  refine ⟨fun d _ => ⟨rfl, ?_, fun k => ?_⟩, fun h10 => compress_eq_zero 10 hx.le (by omega),
    fun h3 => compress_eq_zero 3 hx.le (by omega)⟩
  · have hfloor := floor_compress_quotient (2 ^ d * x)
    push_cast at hfloor
    rw [hfloor, compress]
    push_cast
    rfl
  · exact_mod_cast div_q_ne_add_half (2 ^ d * x) k

/-! ### decompress_d -/

theorem floor_decompress_quotient {d : Nat} (hd : d ≠ 0) (y : Nat) :
    ⌊((7681 * y : ℚ) / 2 ^ d + 1 / 2)⌋ = ((decompress d y : Nat) : Int) := by
  have h := floor_div_add_half (7681 * y) (Nat.two_pow_pos d)
  have hhalf : 2 * (7681 * y) + 2 ^ d = 2 * (7681 * y + 2 ^ (d - 1)) := by rw [mul_add, mul_pow_sub_one hd]
  rw [hhalf, Nat.mul_div_mul_left _ _ (by decide)] at h
  exact_mod_cast h

theorem decompress_le_decompress (d : Nat) {y z : Nat} (h : y ≤ z) : decompress d y ≤ decompress d z :=
  Nat.div_le_div_right (Nat.add_le_add_right (Nat.mul_le_mul_left _ h) _)

/-- Settles O40: a tie is 7681·y at an odd multiple of 2^(d-1), and 7681 is odd. -/
theorem decompressRoundsTiesUp : Obligations.DecompressRoundsTiesUp := by
  intro d y hd hy
  have htie : (∃ k : Int, ((7681 * y : ℚ) / 2 ^ d) = k + 1 / 2) ↔ ∃ k : Int, (2 * (7681 * y) : Int) = (2 * k + 1) * 2 ^ d :=
    exists_congr fun k => by exact_mod_cast div_eq_add_half_iff (7681 * y) (Nat.two_pow_pos d) k
  refine ⟨rfl, (floor_decompress_quotient (by omega) y).symm, htie.trans ?_,
    decompress_le_decompress d (Nat.le_sub_one_of_lt hy), rfl, rfl, rfl, rfl⟩
  obtain rfl | rfl := hd
  · exact ⟨fun ⟨k, hk⟩ => by omega, fun h => ⟨3840, by omega⟩⟩
  · exact ⟨fun ⟨k, hk⟩ => by omega, fun h => ⟨3840, by omega⟩⟩

/-! ### The error of a round trip -/

theorem modDistance_le_abs (e : Int) : modDistance e ≤ |e| := by
  have hdiv := Int.emod_add_mul_ediv e 7681
  rw [modDistance]
  obtain he | he := abs_cases e <;> omega

theorem modDistance_sub_q (e : Int) : modDistance (e - 7681) = modDistance e := by
  rw [modDistance, Int.sub_emod_right, modDistance]

/-- decompress_d is within half of q·y / 2^d. -/
theorem abs_two_pow_mul_decompress_sub_le {d : Nat} (hd : d ≠ 0) (y : Nat) :
    |(2 ^ d * decompress d y - 7681 * y : Int)| ≤ 2 ^ (d - 1) := by
  have hdiv : 2 ^ d * decompress d y + (7681 * y + 2 ^ (d - 1)) % 2 ^ d = 7681 * y + 2 ^ (d - 1) := Nat.div_add_mod _ _
  have hmod := Nat.mod_lt (7681 * y + 2 ^ (d - 1)) (Nat.two_pow_pos d)
  generalize (7681 * y + 2 ^ (d - 1)) % 2 ^ d = r at hdiv hmod
  have hhalf : 2 * 2 ^ (d - 1) = 2 ^ d := mul_pow_sub_one hd 2
  zify at hdiv hmod hhalf
  rw [abs_le]
  constructor
  · linarith
  · linarith [Int.natCast_nonneg r]

/-- Away from the wrap, compress_d is within half of 2^d·x / q. -/
theorem abs_two_pow_mul_sub_compress_le (d : Nat) {x : Nat} (hwrap : 3840 < 2 ^ d * (7681 - x)) :
    |(2 ^ d * x - 7681 * compress d x : Int)| ≤ 3840 := by
  rw [Nat.mul_sub] at hwrap
  have hlt : (2 ^ d * x + 3840) / Config.q < 2 ^ d := Nat.div_lt_of_lt_mul (show _ < 7681 * 2 ^ d by omega)
  have hquot : compress d x = (2 ^ d * x + 3840) / 7681 := Nat.mod_eq_of_lt hlt
  have hlow : 7681 * compress d x ≤ 2 ^ d * x + 3840 := by omega
  have hhigh : 2 ^ d * x ≤ 7681 * compress d x + 3840 := by omega
  zify at hlow hhigh
  rw [abs_le]
  constructor
  · linarith
  · linarith

/-- The two roundings of a round trip add up, counted in units of 1 / 2^d (45_codec.md R240). -/
theorem two_pow_mul_modDistance_le {d : Nat} (hd : d ≠ 0) {x : Nat} (hx : x < 7681) :
    2 ^ d * modDistance ((x : Int) - decompress d (compress d x)) ≤ 3840 + 2 ^ (d - 1) := by
  have hpos : (0 : Int) < 2 ^ d := by positivity
  by_cases hwrap : 2 ^ d * (7681 - x) ≤ 3840
  · have hhalf : 2 ^ (d - 1) < 2 ^ d := Nat.pow_lt_pow_right Nat.one_lt_two (by omega)
    have hzero : decompress d 0 = 0 := Nat.div_eq_of_lt (by rwa [Nat.mul_zero, Nat.zero_add])
    have hdist : modDistance x ≤ 7681 - x := by
      rw [← modDistance_sub_q]
      exact (modDistance_le_abs _).trans (by rw [abs_of_neg (by omega), neg_sub])
    rw [compress_eq_zero d hx.le hwrap, hzero, Nat.cast_zero, sub_zero]
    zify [hx.le] at hwrap
    calc 2 ^ d * modDistance x ≤ 2 ^ d * (7681 - x) := Int.mul_le_mul_of_nonneg_left hdist hpos.le
      _ ≤ 3840 := hwrap
      _ ≤ 3840 + 2 ^ (d - 1) := le_add_of_nonneg_right (by positivity)
  · calc 2 ^ d * modDistance ((x : Int) - decompress d (compress d x))
        ≤ 2 ^ d * |(x : Int) - decompress d (compress d x)| := Int.mul_le_mul_of_nonneg_left (modDistance_le_abs _) hpos.le
      _ = |(2 ^ d * x - 2 ^ d * decompress d (compress d x) : Int)| := by rw [← mul_sub, abs_mul, abs_of_pos hpos]
      _ ≤ |(2 ^ d * x - 7681 * compress d x : Int)| + |(7681 * compress d x - 2 ^ d * decompress d (compress d x) : Int)| :=
        abs_sub_le _ _ _
      _ ≤ 3840 + 2 ^ (d - 1) := add_le_add (abs_two_pow_mul_sub_compress_le d (by omega))
        (abs_sub_comm (2 ^ d * decompress d _ : Int) _ ▸ abs_two_pow_mul_decompress_sub_le hd _)

/-- Settles O41: the bound is the two roundings' together, and the named points reach it. -/
theorem compressionErrorIsBounded : Obligations.CompressionErrorIsBounded := by
  refine ⟨fun x hx => ⟨?_, ?_⟩, ?_, ?_, by decide, by decide⟩
  · have h := two_pow_mul_modDistance_le (d := 10) (by decide) hx
    omega
  · have h := two_pow_mul_modDistance_le (d := 3) (by decide) hx
    omega
  · rintro x (rfl | rfl | rfl) <;> decide
  · rintro x (rfl | rfl | rfl) <;> decide

end Sys2Proof.Machine
end

section
/-! PROOFS. Packing (45_codec.md R233, 20_memory.md R77): a number below 2^(d·n) and its n fields of d bits determine each other,
so pack_d and unpack_d undo each other. -/

namespace Sys2Proof.Machine

/-! ### The fields of a number -/

/-- The first n fields of d bits of a number, the lowest one first (45_codec.md R233). -/
def fieldList (d N n : Nat) : List Nat := (List.range n).map fun i => N / 2 ^ (d * i) % 2 ^ d

theorem fieldList_succ (d N n : Nat) : fieldList d N (n + 1) = N % 2 ^ d :: fieldList d (N / 2 ^ d) n := by
  have hstep : ∀ i, N / 2 ^ (d * (i + 1)) = N / 2 ^ d / 2 ^ (d * i) := fun i => by
    rw [Nat.div_div_eq_div_mul, ← pow_add, Nat.mul_succ, Nat.add_comm]
  simp [fieldList, List.range_succ_eq_map, Function.comp_def, hstep]

theorem fieldList_length (d N n : Nat) : (fieldList d N n).length = n := by simp [fieldList]

theorem fieldList_getD {d N n i : Nat} (hi : i < n) : (fieldList d N n).getD i 0 = N / 2 ^ (d * i) % 2 ^ d := by
  simp [fieldList, hi]

/-- Joining a number's first n fields gives its low d·n bits. -/
theorem joinFields_fieldList (d N n : Nat) : joinFields d (fieldList d N n) = N % 2 ^ (d * n) := by
  induction n generalizing N with
  | zero => exact (Nat.mod_one N).symm
  | succ n ih =>
    rw [fieldList_succ, joinFields, ih, Nat.mul_succ, pow_add, Nat.mul_comm (2 ^ (d * n)), Nat.mod_mul]

/-- The fields of a joined number are the values that were joined. -/
theorem fieldList_joinFields {d : Nat} {v : List Nat} (hv : ∀ x ∈ v, x < 2 ^ d) :
    fieldList d (joinFields d v) v.length = v := by
  induction v with
  | nil => rfl
  | cons x xs ih =>
    have hx : x < 2 ^ d := hv x List.mem_cons_self
    have hlow : joinFields d (x :: xs) % 2 ^ d = x := by
      rw [joinFields, Nat.add_mul_mod_self_left, Nat.mod_eq_of_lt hx]
    have hhigh : joinFields d (x :: xs) / 2 ^ d = joinFields d xs := by
      rw [joinFields, Nat.add_mul_div_left _ _ (Nat.two_pow_pos d), Nat.div_eq_of_lt hx, Nat.zero_add]
    rw [List.length_cons, fieldList_succ, hlow, hhigh, ih fun y hy => hv y (List.mem_cons_of_mem x hy)]

theorem joinFields_mod {d : Nat} {v : List Nat} (hv : ∀ x ∈ v, x < 2 ^ d) :
    joinFields d v % 2 ^ (d * v.length) = joinFields d v := by
  rw [← joinFields_fieldList, fieldList_joinFields hv]

/-- The fields of a number's low bits are the number's. -/
theorem fieldList_mod {d N n m : Nat} (h : d * n = m) : fieldList d (N % 2 ^ m) n = fieldList d N n := by
  have hlt : ∀ x ∈ fieldList d N n, x < 2 ^ d := fun x hx => by
    obtain ⟨i, -, rfl⟩ := List.mem_map.1 hx
    exact Nat.mod_lt _ (Nat.two_pow_pos d)
  calc fieldList d (N % 2 ^ m) n = fieldList d (joinFields d (fieldList d N n)) (fieldList d N n).length := by
        rw [joinFields_fieldList, fieldList_length, h]
    _ = fieldList d N n := fieldList_joinFields hlt

/-! ### pack_d and unpack_d -/

/-- The bytes of a packed list are the fields of 8 bits of the number its values make up. -/
theorem pack_map_toNat (d : Nat) (v : List Nat) : (pack d v).map BitVec.toNat = fieldList 8 (joinFields d v) (8 * d) := by
  simp [pack, fieldList, Function.comp_def]

theorem pack_getD_toNat {d k : Nat} (v : List Nat) (hk : k < 8 * d) :
    ((pack d v).getD k 0).toNat = joinFields d v / 2 ^ (8 * k) % 256 := by
  simp [pack, hk]

theorem streamNumber_pack (d : Nat) (v : List Nat) : streamNumber (pack d v) = joinFields d v % 2 ^ (d * 64) := by
  rw [streamNumber, pack_map_toNat, joinFields_fieldList, show 8 * (8 * d) = d * 64 by omega]

/-- unpack_d of pack_d is the identity on 64 values of d bits (45_codec.md R233). -/
theorem unpackAt_pack {d : Nat} {v : List Nat} (hlen : v.length = 64) (hv : ∀ x ∈ v, x < 2 ^ d) {i : Nat} (hi : i < 64) :
    unpackAt d (pack d v) i = v.getD i 0 := by
  have hnum : streamNumber (pack d v) = joinFields d v := by rw [streamNumber_pack, ← hlen, joinFields_mod hv]
  calc unpackAt d (pack d v) i = streamNumber (pack d v) / 2 ^ (d * i) % 2 ^ d := rfl
    _ = (fieldList d (joinFields d v) v.length).getD i 0 := by rw [hnum, fieldList_getD (hlen.symm ▸ hi)]
    _ = v.getD i 0 := by rw [fieldList_joinFields hv]

/-- pack_d of unpack_d is the identity on 8·d bytes (45_codec.md R233). -/
theorem pack_fieldList {d : Nat} {bs : List Byte} (hlen : bs.length = 8 * d) :
    pack d (fieldList d (streamNumber bs) 64) = bs := by
  apply List.map_injective_iff.2 fun x y h => BitVec.eq_of_toNat_eq h
  rw [pack_map_toNat, joinFields_fieldList, fieldList_mod (by omega), streamNumber, ← hlen, ← List.length_map BitVec.toNat]
  exact fieldList_joinFields fun x hx => by
    obtain ⟨b, -, rfl⟩ := List.mem_map.1 hx
    exact b.isLt

/-! ### The numbers of the statements -/

theorem joinFields_ofFn (d : Nat) {n : Nat} (v : Fin n → Nat) :
    joinFields d (List.ofFn v) = ∑ i : Fin n, v i * 2 ^ (d * i.val) := by
  induction n with
  | zero => rfl
  | succ n ih =>
    rw [List.ofFn_succ, joinFields, ih, Fin.sum_univ_succ, Finset.mul_sum]
    congr 1
    · simp
    · refine Finset.sum_congr rfl fun i _ => ?_
      rw [Fin.val_succ, Nat.mul_succ, pow_add]
      ring

theorem map_range_eq_ofFn (n : Nat) (f : Nat → Nat) : (List.range n).map f = List.ofFn fun i : Fin n => f i.val := by
  rw [List.ofFn_eq_map, ← List.map_coe_finRange_eq_range, List.map_map]
  rfl

theorem vector_toList_map {α β : Type} {n : Nat} (a : Vector α n) (f : α → β) :
    a.toList.map f = List.ofFn fun j => f (a.get j) := by
  apply List.ext_getElem
  · simp
  · intro i _ _
    simp [Vector.get]

theorem vector_toList_map_getD {α : Type} {n : Nat} (a : Vector α n) (f : α → Nat) (j : Fin n) :
    (a.toList.map f).getD j.val 0 = f (a.get j) := by simp [vector_toList_map]

theorem joinFields_poly (d : Nat) (s : State) (a : Reg) (f : Coef → Nat) :
    joinFields d ((s.poly a).toList.map f) = packedNumber d fun i => f (s.coef a i) := by
  simp only [vector_toList_map, State.poly_get, joinFields_ofFn, packedNumber]

theorem streamNumber_bytes (s : State) (n : Nat) : streamNumber (s.bytes n) = bufferNumber n s := by
  rw [streamNumber, State.bytes, List.map_map, map_range_eq_ofFn, joinFields_ofFn, bufferNumber, Finset.sum_range]
  rfl

theorem unpackAt_bytes (d n : Nat) (s : State) (i : Nat) : unpackAt d (s.bytes n) i = bufferField n d s i := by
  rw [bufferField, ← streamNumber_bytes]
  rfl

end Sys2Proof.Machine
end

section
/-! PROOFS. The codec commands (45_codec.md R234 to R241): CMP10, CMP3 and SER13 store a packed list, DEC10, DEC3 and DES13 write
the lanes of an unpacked one, and SER13 and DES13 undo each other. -/

namespace Sys2Proof.Machine

/-! ### The effect of a packing command -/

theorem bytesResult_completedKeeping (bs : List Byte) (s : State) : CompletedKeeping s (bytesResult bs s) :=
  (s.setBytes 0 bs).complete_completedKeeping

theorem bytesResult_byte_of_lt {s : State} (hwf : Memory.wf s.BUF) {bs : List Byte} (hlen : bs.length ≤ 128) {k : Nat}
    (hk : k < bs.length) : (bytesResult bs s).byte k = bs.getD k 0 := by
  obtain ⟨hrising, -⟩ := hwf
  rw [bytesResult_byte bs s k hrising hlen, if_pos hk]

/-- A store of a packed list from byte 0 up and the completion after it, with nothing else changed (45_codec.md R230). -/
theorem bytesResult_pack_writesBytes {s : State} (hwf : Memory.wf s.BUF) {d : Nat} (hd : d ≤ 16) (v : List Nat) :
    WritesBytes (8 * d) (fun k => joinFields d v / 2 ^ (8 * k)) s (bytesResult (pack d v) s) := by
  have hlen := pack_length d v
  have horigin : ∀ k, (bytesResult (pack d v) s).bufOrigin[k]? =
      if 0 ≤ k ∧ k < 0 + (pack d v).length ∧ k < 128 then some .written else s.bufOrigin[k]? :=
    markBytes_getElem? s.bufOrigin 0 _ .written
  refine ⟨fun k hk => ⟨?_, ?_⟩, fun k hk => ⟨?_, ?_⟩, rfl, rfl, bytesResult_completedKeeping _ s⟩
  · rw [bytesResult_byte_of_lt hwf (by omega) (by omega), pack_getD_toNat v hk]
  · rw [horigin, if_pos (by omega)]
  · obtain ⟨hrising, -⟩ := hwf
    rw [bytesResult_byte _ _ _ hrising (by omega), if_neg (by omega)]
  · rw [horigin, if_neg (by omega)]

/-- A command that packs the values `f` gives of the coefficients of PR[a]. -/
theorem bytesResult_poly_writesBytes {s : State} (hwf : Memory.wf s.BUF) {d : Nat} (hd : d ≤ 16) (a : Reg) (f : Coef → Nat) :
    WritesBytes (8 * d) (fun k => packedNumber d (fun i => f (s.coef a i)) / 2 ^ (8 * k)) s
      (bytesResult (pack d ((s.poly a).toList.map f)) s) := by
  rw [← joinFields_poly]
  exact bytesResult_pack_writesBytes hwf hd _

/-- Settles O33: the stored bytes are those of the number the 64 compressed coefficients make up. -/
theorem cmp10PacksTenBits : Obligations.Cmp10PacksTenBits := fun a =>
  ⟨decode_encode (.cmp10 a), fun s hwf =>
    ⟨_, rfl, bytesResult_poly_writesBytes hwf (d := 10) (by decide) a fun x => compress 10 x.toNat⟩⟩

/-- Settles O35: as CMP10, with three bits a coefficient. -/
theorem cmp3PacksThreeBits : Obligations.Cmp3PacksThreeBits := fun a =>
  ⟨decode_encode (.cmp3 a), fun s hwf =>
    ⟨_, rfl, bytesResult_poly_writesBytes hwf (d := 3) (by decide) a fun x => compress 3 x.toNat⟩⟩

/-- Settles O37: the stored bytes are those of the number the 64 coefficients make up. -/
theorem ser13PacksThirteenBits : Obligations.Ser13PacksThirteenBits := fun a =>
  ⟨decode_encode (.ser13 a), fun s hwf =>
    ⟨_, rfl, bytesResult_poly_writesBytes hwf (d := 13) (by decide) a BitVec.toNat⟩⟩

/-! ### The effect of an unpacking command -/

theorem unpackAt_lt (d : Nat) (bs : List Byte) (i : Nat) : unpackAt d bs i < 2 ^ d := Nat.mod_lt _ (Nat.two_pow_pos d)

/-- A decompressed field fits a coefficient cell. -/
theorem decompress_lt {d y : Nat} (hy : y < 2 ^ d) : decompress d y < 2 ^ 13 := by
  have hhalf : 2 ^ (d - 1) ≤ 2 ^ d := Nat.pow_le_pow_right (by decide) (Nat.sub_le d 1)
  exact Nat.div_lt_of_lt_mul (show 7681 * y + 2 ^ (d - 1) < 2 ^ d * 2 ^ 13 by omega)

theorem decompressPoly_get_toNat (d n : Nat) (s : State) (j : Lane) :
    ((decompressPoly d (s.bytes n)).get j).toNat = decompress d (bufferField n d s j.val) := by
  rw [decompressPoly, lanes_get, BitVec.toNat_ofNat, Nat.mod_eq_of_lt (decompress_lt (unpackAt_lt d _ _)), unpackAt_bytes]

theorem deserializePoly_get_toNat (bs : List Byte) (j : Lane) : ((deserializePoly bs).get j).toNat = unpackAt 13 bs j.val := by
  rw [deserializePoly, lanes_get, BitVec.toNat_ofNat, Nat.mod_eq_of_lt (unpackAt_lt 13 bs j.val)]

/-- Settles O34: lane j is the decompressed field j, which fits 13 bits. -/
theorem dec10UnpacksTenBits : Obligations.Dec10UnpacksTenBits := fun d =>
  ⟨decode_encode (.dec10 d), fun s =>
    ⟨_, rfl, polyResult_writesPoly d s fun j => congrArg Nat.cast (decompressPoly_get_toNat 10 80 s j)⟩⟩

/-- Settles O36: as DEC10, with fields of three bits. -/
theorem dec3UnpacksThreeBits : Obligations.Dec3UnpacksThreeBits := fun d =>
  ⟨decode_encode (.dec3 d), fun s =>
    ⟨_, rfl, polyResult_writesPoly d s fun j => congrArg Nat.cast (decompressPoly_get_toNat 3 24 s j)⟩⟩

theorem outOfRange_iff (bs : List Byte) : outOfRange bs = true ↔ ∃ j : Lane, 7681 ≤ unpackAt 13 bs j.val := by
  rw [outOfRange, List.any_eq_true]
  constructor
  · rintro ⟨j, hj, h⟩
    exact ⟨⟨j, List.mem_range.1 hj⟩, of_decide_eq_true h⟩
  · rintro ⟨j, h⟩
    exact ⟨j.val, List.mem_range.2 j.isLt, decide_eq_true h⟩

theorem execDes13_of_range {s : State} (d : Reg) (h : ∃ j : Lane, 7681 ≤ bufferField 104 13 s j.val) :
    execDes13 d s = .next (s.cmdError .range) := by
  simp only [← unpackAt_bytes] at h
  exact if_pos ((outOfRange_iff _).2 h)

theorem execDes13_of_canonical {s : State} (d : Reg) (h : ∀ j : Lane, bufferField 104 13 s j.val < 7681) :
    execDes13 d s = .next (polyResult d (deserializePoly (s.bytes 104)) s) := by
  simp only [← unpackAt_bytes] at h
  exact if_neg fun hrange =>
    let ⟨j, hj⟩ := (outOfRange_iff _).1 hrange
    Nat.not_lt_of_le hj (h j)

/-- Settles O38, by the two cases of the fields: one of q or more raises RANGE, and otherwise lane j is field j. -/
theorem des13UnpacksThirteenBits : Obligations.Des13UnpacksThirteenBits := by
  intro d
  refine ⟨decode_encode (.des13 d), fun s => ⟨fun hrange => ?_, fun hcanonical => ?_⟩⟩
  · exact ⟨_, execDes13_of_range d hrange, s.cmdError_failedKeeping .range⟩
  · refine ⟨_, execDes13_of_canonical d hcanonical, polyResult_writesPoly d s fun j => ?_⟩
    rw [deserializePoly_get_toNat, unpackAt_bytes]

/-! ### The round trips of SER13 and DES13 -/

/-- The bytes a packing command has stored are what the next command finds. -/
theorem bytesResult_bytes {s : State} (hwf : Memory.wf s.BUF) {bs : List Byte} (hlen : bs.length ≤ 128) :
    (bytesResult bs s).bytes bs.length = bs := by
  apply List.ext_getElem
  · simp [State.bytes]
  · intro k hk hk'
    simp [State.bytes, bytesResult_byte_of_lt hwf hlen hk', hk']

/-- The polynomial a command has written is what the next command finds. -/
theorem State.poly_of_written {t : State} {d : Reg} {v : Poly} (h : ∀ j : Lane, (t.PR.get d).get j = Cell.ofWrite (v.get j)) :
    t.poly d = v := by
  refine vector_ext_get _ _ fun j => ?_
  have horigin : ((t.PR.get d).get j).origin = .written := congrArg Cell.origin (h j)
  rw [State.poly_get, State.coef_of_not_lost _ _ _ (by simp [horigin]), h]
  rfl

theorem deserializePoly_serializePoly (a : Poly) : deserializePoly (serializePoly a) = a := by
  refine vector_ext_get _ _ fun j => BitVec.eq_of_toNat_eq ?_
  have hv : ∀ x ∈ a.toList.map BitVec.toNat, x < 2 ^ 13 := fun x hx => by
    obtain ⟨c, -, rfl⟩ := List.mem_map.1 hx
    exact c.isLt
  rw [deserializePoly_get_toNat, serializePoly, unpackAt_pack (by simp) hv j.isLt, vector_toList_map_getD]

theorem serializePoly_deserializePoly {bs : List Byte} (hlen : bs.length = 104) : serializePoly (deserializePoly bs) = bs := by
  have hfields : (deserializePoly bs).toList.map BitVec.toNat = fieldList 13 (streamNumber bs) 64 := by
    simp only [vector_toList_map, deserializePoly_get_toNat, fieldList, map_range_eq_ofFn]
    rfl
  rw [serializePoly, hfields, pack_fieldList hlen]

/-- What the second of two commands leaves of ERR, CAUSE, BUSY and DONE when both complete. -/
theorem CompletedKeeping.after {s t u : State} (hst : CompletedKeeping s t) (htu : CompletedKeeping t u) :
    u.err = s.err ∧ u.cause = s.cause ∧ u.busy = false ∧ u.done = true := by
  obtain ⟨-, -, ⟨herr, -, -, hcause, -⟩, -⟩ := hst
  obtain ⟨hbusy, hdone, ⟨herr', -, -, hcause', -⟩, -⟩ := htu
  exact ⟨herr'.trans herr, hcause'.trans hcause, hbusy, hdone⟩

theorem exec_ser13_bytes {s : State} (hwf : Memory.wf s.BUF) (a : Reg) :
    ∃ t, exec (.ser13 a) s = .next t ∧ CompletedKeeping s t ∧ t.bytes 104 = serializePoly (s.poly a) := by
  have hlen : (serializePoly (s.poly a)).length = 104 := pack_length 13 _
  have hbytes := bytesResult_bytes hwf (bs := serializePoly (s.poly a)) (by omega)
  rw [hlen] at hbytes
  exact ⟨_, rfl, bytesResult_completedKeeping _ s, hbytes⟩

theorem exec_des13_cells {s : State} (d : Reg) (h : ∀ j : Lane, bufferField 104 13 s j.val < 7681) :
    ∃ t, exec (.des13 d) s = .next t ∧ CompletedKeeping s t ∧ t.BUF = s.BUF ∧
      ∀ j : Lane, (t.PR.get d).get j = Cell.ofWrite ((deserializePoly (s.bytes 104)).get j) :=
  ⟨_, execDes13_of_canonical d h, (s.setPoly d _).complete_completedKeeping, rfl, polyResult_get_self d _ s⟩

/-- Settles O42: each command finds what the other has written, and packing and unpacking undo each other. -/
theorem serializationRoundTrips : Obligations.SerializationRoundTrips := by
  intro s p r hwf
  refine ⟨fun hcanonical => ?_, fun hfields => ?_⟩
  · obtain ⟨t, hser, hkeep, hbytes⟩ := exec_ser13_bytes hwf p
    have hfields : ∀ j : Lane, bufferField 104 13 t j.val < 7681 := fun j => by
      rw [← unpackAt_bytes, hbytes, ← deserializePoly_get_toNat, deserializePoly_serializePoly, State.poly_get]
      exact hcanonical j
    obtain ⟨u, hdes, hkeep', -, hcells⟩ := exec_des13_cells r hfields
    obtain ⟨herr, hcause, hbusy, hdone⟩ := hkeep.after hkeep'
    refine ⟨t, u, hser, hdes, herr, hcause, hbusy, hdone, fun j => ?_⟩
    rw [hcells, hbytes, deserializePoly_serializePoly, State.poly_get]
    rfl
  · obtain ⟨t, hdes, hkeep, hbuf, hcells⟩ := exec_des13_cells r hfields
    obtain ⟨u, hser, hkeep', hbytes⟩ := exec_ser13_bytes (hbuf ▸ hwf) r
    rw [State.poly_of_written hcells, serializePoly_deserializePoly (by simp [State.bytes])] at hbytes
    obtain ⟨herr, hcause, hbusy, hdone⟩ := hkeep.after hkeep'
    exact ⟨t, u, hdes, hser, herr, hcause, hbusy, hdone, fun k hk => List.map_inj_left.1 hbytes k (List.mem_range.2 hk)⟩

end Sys2Proof.Machine
end

section
/-! PROOFS. The soft reset at any time (70_reset_and_hazards.md R301, R302): which cells an abort loses, form by form, and that
it leaves every other cell alone. -/

namespace Sys2Proof.Machine

/-- From `s` to `t`, exactly the scalar `r?`, the polynomial `p?` and the first `n` bytes of BUF became unwritten; every other
cell of S and PR, and every other byte's origin, is as before. -/
def LosesCells (r? p? : Option Reg) (n : Nat) (s t : State) : Prop :=
  (∀ r : Reg, if r? = some r then (t.S.get r).origin = .lost else t.S.get r = s.S.get r) ∧
    (∀ p : Reg, if p? = some p then ∀ j : Lane, ((t.PR.get p).get j).origin = .lost else t.PR.get p = s.PR.get p) ∧
    ∀ k : Nat, k < 128 → t.bufOrigin[k]? = if k < n then some .lost else s.bufOrigin[k]?

variable (s : State)

/-- PR[i] whole, for a register that the abort does not lose. -/
theorem State.losePoly_get_ne (p i : Reg) (h : i ≠ p) : (s.losePoly p).PR.get i = s.PR.get i := by
  rw [State.losePoly_PR, vector_get_set, if_neg h]

theorem losesCells_none : LosesCells none none 0 s s := ⟨fun _ => rfl, fun _ => rfl, fun _ _ => rfl⟩

theorem State.loseScalar_losesCells (d : Reg) : LosesCells (some d) none 0 s (s.loseScalar d) := by
  refine ⟨fun r => ?_, fun _ => rfl, fun _ _ => rfl⟩
  split
  case isTrue h => rw [s.loseScalar_get, if_pos (Option.some.inj h).symm]; rfl
  case isFalse h => rw [s.loseScalar_get, if_neg fun hr => h (congrArg some hr.symm)]

theorem State.losePoly_losesCells (d : Reg) : LosesCells none (some d) 0 s (s.losePoly d) := by
  refine ⟨fun _ => rfl, fun p => ?_, fun _ _ => rfl⟩
  split
  case isTrue h => intro j; rw [s.losePoly_get, if_pos (Option.some.inj h).symm]; rfl
  case isFalse h => exact s.losePoly_get_ne d p fun hp => h (congrArg some hp.symm)

theorem State.loseBytes_losesCells (n : Nat) : LosesCells none none n s (s.loseBytes n) := by
  refine ⟨fun _ => rfl, fun _ => rfl, fun k hk => ?_⟩
  have hrange : (0 ≤ k ∧ k < 0 + n ∧ k < 128) ↔ k < n := by omega
  rw [State.loseBytes_bufOrigin, markBytes_getElem?]
  exact if_congr hrange rfl rfl

/-- What an abort makes of each form is the destination that the form's row names. -/
theorem State.loseDestination_losesCells :
    ∀ i : Instr, LosesCells (scalarDestination i) (polyDestination i) (bufferRegion i) s (s.loseDestination i)
  | .nop => losesCells_none s
  | .sadd d _ _ | .ssub d _ _ | .smul d _ _ | .sinv d _ => s.loseScalar_losesCells d
  | .pzero d | .padd d _ _ | .psub d _ _ | .pmul d _ _ | .pmac d _ _ | .ntt d _ | .intt d _ | .sampu d | .cbd1 d | .cbd2 d
  | .dec10 d | .dec3 d | .des13 d => s.losePoly_losesCells d
  | .cmp10 _ => s.loseBytes_losesCells 80
  | .cmp3 _ => s.loseBytes_losesCells 24
  | .ser13 _ => s.loseBytes_losesCells 104

variable {s}

theorem State.abort_of_ok (hbusy : s.busy = true) {i : Instr} (hcur : decode s.cur = .ok i) :
    s.abort = s.loseDestination i := by
  rw [State.abort, if_pos hbusy, hcur]

/-- With no command in flight, or a word that is no command, an abort loses nothing. -/
theorem State.abort_eq_self (h : s.busy = false ∨ ∃ e, decode s.cur = .error e) : s.abort = s := by
  unfold State.abort
  split
  case isTrue hbusy =>
    obtain hidle | ⟨e, he⟩ := h
    · exact absurd hbusy (Bool.eq_false_iff.1 hidle)
    · rw [he]
  case isFalse => rfl

/-- An abort marks cells of BUF and changes no byte of it. -/
theorem State.abort_BUF : s.abort.BUF = s.BUF :=
  State.abort_of (·.BUF = s.BUF) s rfl s.loseScalar_BUF s.losePoly_BUF fun n _ => s.loseBytes_BUF n

/-- Settles O52: the write is the abort with the control state then cleared, and the abort loses the destination of the form in
flight. -/
theorem softResetAbortsTheCommand : Obligations.SoftResetAbortsTheCommand := by
  intro s w hw
  have hwrite : s.hostWrite (atByte 0x010) w = s.softReset := (s.hostWrite_ctrl w).trans (s.writeCtrl_reset hw)
  refine ⟨s.softReset, hwrite, s.abort.clearControl_controlAtReset, State.abort_BUF, fun h => ?_, fun i hbusy hcur => ?_⟩
  · rw [State.softReset, State.abort_eq_self h]
    exact ⟨rfl, rfl, rfl⟩
  · rw [State.softReset, State.abort_of_ok hbusy hcur]
    exact s.loseDestination_losesCells i

end Sys2Proof.Machine
end

section
/-! PROOFS. The decoder and the encoder undo each other (30_encoding.md sections 1 and 2): a decoded word is the encoding of its
opcode and of the fields its format uses, since the bits the format fixes to 0 are 0. -/

namespace Sys2Proof

/-- Settles O1, by the form of the command: each field comes back from the encoded word. -/
theorem decodeOfEncodeIsTheCommand : Obligations.DecodeOfEncodeIsTheCommand := decode_encode

/-- A word with Z = 0 is the encoding of its own fields. -/
theorem encodeFields_of_fields {w : Word} {op : Nat} {d a b : Reg} (hop : opField w = op) (hd : dField w = d)
    (ha : aField w = a) (hb : bField w = b) (hz : zField w = 0) : encodeFields op d a b = w := by
  have hlt : op < 64 := hop ▸ field_lt w 26 6
  have hreg : ∀ {v : Word} {lo : Nat} {r : Reg}, regField v lo = r → field v lo 5 = r.val := fun h => congrArg Fin.val h
  rw [word_eq_iff_fields]
  exact ⟨(opField_encodeFields op d a b hlt).trans hop.symm,
    (hreg (dField_encodeFields op d a b hlt)).trans (hreg hd).symm,
    (hreg (aField_encodeFields op d a b hlt)).trans (hreg ha).symm,
    (hreg (bField_encodeFields op d a b hlt)).trans (hreg hb).symm,
    (zField_encodeFields op d a b hlt).trans hz.symm⟩

section
variable {w : Word} {op : Nat} (hop : opField w = op)
include hop

theorem encodeFields_of_zeroN (h : zeroN w = true) : encodeFields op 0 0 0 = w := by
  simp only [zeroN, Bool.and_eq_true, beq_iff_eq] at h
  obtain ⟨⟨⟨hd, ha⟩, hb⟩, hz⟩ := h
  exact encodeFields_of_fields hop hd ha hb hz

theorem encodeFields_of_zeroRRR (h : zeroRRR w = true) : encodeFields op (dField w) (aField w) (bField w) = w :=
  encodeFields_of_fields hop rfl rfl rfl (beq_iff_eq.1 h)

theorem encodeFields_of_zeroRR (h : zeroRR w = true) : encodeFields op (dField w) (aField w) 0 = w := by
  simp only [zeroRR, Bool.and_eq_true, beq_iff_eq] at h
  obtain ⟨hb, hz⟩ := h
  exact encodeFields_of_fields hop rfl rfl hb hz

theorem encodeFields_of_zeroRD (h : zeroRD w = true) : encodeFields op (dField w) 0 0 = w := by
  simp only [zeroRD, Bool.and_eq_true, beq_iff_eq] at h
  obtain ⟨⟨ha, hb⟩, hz⟩ := h
  exact encodeFields_of_fields hop rfl ha hb hz

theorem encodeFields_of_zeroRA (h : zeroRA w = true) : encodeFields op 0 (aField w) 0 = w := by
  simp only [zeroRA, Bool.and_eq_true, beq_iff_eq] at h
  obtain ⟨⟨hd, hb⟩, hz⟩ := h
  exact encodeFields_of_fields hop hd rfl hb hz

end

/-- What a format's check lets through is the command of the format, so a claim about it needs the check to have passed. -/
theorem encode_of_guarded {w : Word} {zero : Bool} {i j : Instr} (h : guarded zero i = .ok j)
    (hencode : zero = true → encode i = w) : encode j = w := by
  obtain ⟨hzero, rfl⟩ := guarded_eq_ok_iff.1 h
  exact hencode hzero

/-- Settles O2, by the decoder's rows: each has checked the bits that the format of its opcode fixes to 0. -/
theorem encodeOfDecodeIsTheWord : Obligations.EncodeOfDecodeIsTheWord := by
  intro w i h
  unfold decode at h
  split at h
  case h_1 hop => exact encode_of_guarded h (encodeFields_of_zeroN hop)
  case h_2 hop | h_3 hop | h_4 hop | h_7 hop | h_8 hop | h_9 hop | h_10 hop =>
    exact encode_of_guarded h (encodeFields_of_zeroRRR hop)
  case h_5 hop | h_11 hop | h_12 hop => exact encode_of_guarded h (encodeFields_of_zeroRR hop)
  case h_6 hop | h_13 hop | h_14 hop | h_15 hop | h_17 hop | h_19 hop | h_21 hop =>
    exact encode_of_guarded h (encodeFields_of_zeroRD hop)
  case h_16 hop | h_18 hop | h_20 hop => exact encode_of_guarded h (encodeFields_of_zeroRA hop)
  case h_22 => cases h

/-- Settles O7: each word is the encoding of its command. -/
theorem sampleWordsDecode : Obligations.SampleWordsDecode :=
  ⟨decode_encode .nop, decode_encode (.sadd 3 1 2), decode_encode (.pmac 3 1 2), decode_encode (.ntt 1 1),
    decode_encode (.cbd1 0), decode_encode (.cmp10 2), decode_encode (.des13 7)⟩

end Sys2Proof
end

section
/-! PROOFS. What a step is at each event (20_memory.md R69), and the step that runs the command in flight (40_command.md R122). -/

namespace Sys2Proof.Machine

/-- Settles O8: an engine event with a decodable command in flight. -/
theorem stepRunsTheCommandInFlight : Obligations.StepRunsTheCommandInFlight := fun _ _ hnext hbusy hcur =>
  step_of_inFlight hnext hbusy hcur

theorem step_of_nextEvent {s : State} {e : Event} (h : s.nextEvent = e) : step s = runEvent e s.advance := by
  rw [step, h]

/-- Settles O9, event by event, the engine's also for the empty schedule. -/
theorem stepIsTheNextEvent : Obligations.StepIsTheNextEvent := by
  refine ⟨fun s e rest hscript => ?_, fun s hscript => ?_, ?_⟩
  · have hnext : s.nextEvent = e := by rw [State.nextEvent, hscript]
    rw [step_of_nextEvent hnext, State.advance, hscript, List.tail_cons]
  · have hnext : s.nextEvent = .engine := by rw [State.nextEvent, hscript]
    have hadvance : s.advance = { s with draws := s.draws + 1 } := by
      rw [State.advance, hscript, List.tail_nil, ← hscript]
    rw [step_of_nextEvent hnext, hadvance, runEvent]
  · rintro s t rfl
    exact ⟨step_of_nextEvent, fun _ => step_of_nextEvent, fun _ _ => step_of_nextEvent, step_of_nextEvent, step_of_nextEvent⟩

theorem tableWord_toNat (w : Word) : tableWord 32 w.toNat = w := by
  rw [tableWord, Nat.mod_eq_of_lt w.isLt, BitVec.ofNat_toNat, BitVec.setWidth_eq]

/-- Settles O10: the placed word is in flight, the engine moves next, and the word decodes to its command. -/
theorem placedCommandRunsNext : Obligations.PlacedCommandRunsNext := by
  intro s i
  rw [State.withFetchWord, tableWord_toNat]
  obtain ⟨hbusy, hcur, hnext, -⟩ := withCommand_fields s (encode i)
  exact step_of_inFlight hnext hbusy (by rw [hcur, decode_encode])

end Sys2Proof.Machine
end

section
/-! PROOFS. PMAC (42_poly_arith.md R165), and NTT and INTT as commands (43_ntt.md R182, R184) with their constants (R180,
R181). -/

namespace Sys2Proof.Machine

theorem polyMac_get_toNat (s : State) (d a b : Reg) (j : Lane) :
    (((polyMac (s.poly d) (s.poly a) (s.poly b)).get j).toNat : Int) =
      ((coefNat s d j : Int) + (coefNat s a j : Int) * coefNat s b j) % 7681 := by
  rw [polyMac, lanes_get, State.poly_get, State.poly_get, State.poly_get]
  exact reduce_emod _

/-- Settles O21: each lane's exact value, with the old PR[D] in it, is reduced once. -/
theorem pmacAccumulatesTheLaneProducts : Obligations.PmacAccumulatesTheLaneProducts := fun d a b =>
  ⟨decode_encode (.pmac d a b), fun s => ⟨_, rfl, polyResult_writesPoly d s (polyMac_get_toNat s d a b)⟩⟩

/-- PSI is the least root of x ^ 64 = -1 (43_ntt.md R180). -/
theorem pow_64_ne_of_lt_psi : ∀ x < Config.psi, x ^ 64 % 7681 ≠ 7680 := by decide +kernel

/-- Settles O22: the table's entries, and the three constants by computation. -/
theorem twiddlesArePowersOfPsi : Obligations.TwiddlesArePowersOfPsi :=
  ⟨fun _ => zeta_toNat, by decide, pow_64_ne_of_lt_psi, by decide⟩

/-- Settles O23: each of the two writes the transform of the snapshot of PR[A], D = A included. -/
theorem transformCommandsWriteTheTransform : Obligations.TransformCommandsWriteTheTransform := fun d a =>
  ⟨decode_encode (.ntt d a), decode_encode (.intt d a), fun s =>
    ⟨⟨_, rfl, polyResult_writesPoly d s fun _ => rfl⟩, _, rfl, polyResult_writesPoly d s fun _ => rfl⟩⟩

end Sys2Proof.Machine
end

section
/-! PROOFS. What a step can do, as one rule per layer: a predicate that holds after each effect of the layer holds after the
layer. The invariants and the frames below are these rules with their predicate. -/

namespace Sys2Proof.Machine

variable {s t : State}

/-! ### A step and an engine step -/

theorem engineStep_of {P : State → Prop} (ht : engineStep s = .next t) (idle : P s) (error : ∀ e, P (s.cmdError e))
    (run : ∀ i, s.busy = true → decode s.cur = .ok i → exec i s = .next t → P t) : P t := by
  obtain ⟨-, e⟩ | ⟨err, -, -, e⟩ | ⟨i, hbusy, hcur, e⟩ := engineStep_cases s
  · cases e.symm.trans ht
    exact idle
  · cases e.symm.trans ht
    exact error _
  · exact run i hbusy hcur (e.symm.trans ht)

/-- The effects of a step in the state in which the schedule has moved on, `u`. -/
theorem step_of {P : State → Prop} {u : State} (ht : step s = .next t) (hu : s.advance = u) (idle : P u)
    (error : ∀ e, P (u.cmdError e)) (run : ∀ i, u.busy = true → decode u.cur = .ok i → exec i u = .next t → P t)
    (read : ∀ a, P (u.hostRead a)) (write : ∀ a w, P (u.hostWrite a w)) (reset : P u.hardReset) : P t := by
  subst hu
  obtain ⟨-, e⟩ | ⟨a, -, e⟩ | ⟨a, w, -, e⟩ | ⟨-, e⟩ | ⟨-, e⟩ := step_cases s
  · exact engineStep_of (e.symm.trans ht) idle error run
  · cases e.symm.trans ht
    exact read a
  · cases e.symm.trans ht
    exact write a w
  · cases e.symm.trans ht
  · cases e.symm.trans ht
    exact reset

/-! ### A command -/

theorem streamStep_of {P : State → Prop} {n : Nat} {f : Byte → State → State} (ht : streamStep n f s = .next t)
    (decode : P { s with decoded := true }) (hold : P s)
    (byte : ∀ b rest, s.decoded = true → s.FIFO = b :: rest → s.idx + n ≤ 64 → P (f b { s with FIFO := rest })) :
    P t := by
  obtain ⟨-, e⟩ | ⟨-, -, e⟩ | ⟨b, rest, hd, hfifo, hidx, e⟩ | ⟨b, rest, -, -, -, e⟩ :=
    streamStep_cases n f s
  · cases e.symm.trans ht
    exact decode
  · cases e.symm.trans ht
    exact hold
  · cases e.symm.trans ht
    exact byte b rest hd hfifo hidx
  · cases e.symm.trans ht

/-- The effects of a command's engine step, each with the destination that it writes. -/
theorem exec_of {P : State → Prop} {i : Instr} (ht : exec i s = .next t) (complete : P s.complete)
    (error : ∀ e, P (s.cmdError e)) (scalar : ∀ d v, scalarDestination i = some d → P (s.setScalar d v).complete)
    (poly : ∀ d v, polyDestination i = some d → P (polyResult d v s))
    (bytes : ∀ bs, bs.length = bufferRegion i → 0 < bs.length → bs.length ≤ 104 → P (bytesResult bs s))
    (decode : isStream i = true → P { s with decoded := true }) (hold : P s)
    (sampu : ∀ d b rest, i = .sampu d → s.decoded = true → s.FIFO = b :: rest → s.idx + 1 ≤ 64 →
      P (sampuByte d b { s with FIFO := rest }))
    (cbd : ∀ value d b rest, i = .cbd1 d ∨ i = .cbd2 d → s.decoded = true → s.FIFO = b :: rest → s.idx + 2 ≤ 64 →
      P (cbdByte value d b { s with FIFO := rest })) : P t := by
  obtain ⟨-, e⟩ | ⟨d, v, hi, -, e⟩ | ⟨d, v, hi, -, e⟩ | ⟨a, bs, hi, e⟩ | ⟨c, -, e⟩ | ⟨d, hstream⟩ :=
    exec_cases i s
  · cases e.symm.trans ht
    exact complete
  · cases e.symm.trans ht
    refine scalar d v ?_
    obtain ⟨a, b, rfl | rfl | rfl⟩ | ⟨a, rfl⟩ := hi <;> rfl
  · cases e.symm.trans ht
    refine poly d v ?_
    obtain ⟨a, b, rfl | rfl | rfl | rfl⟩ | ⟨a, rfl | rfl⟩ | rfl | rfl | rfl | rfl := hi <;> rfl
  · cases e.symm.trans ht
    obtain ⟨rfl, hlen⟩ | ⟨rfl, hlen⟩ | ⟨rfl, hlen⟩ := hi <;> exact bytes bs hlen (by omega) (by omega)
  · cases e.symm.trans ht
    exact error c
  · obtain ⟨rfl, e⟩ | ⟨rfl, e⟩ | ⟨rfl, e⟩ := hstream
    · exact streamStep_of (e.symm.trans ht) (decode rfl) hold fun b rest => sampu d b rest rfl
    · exact streamStep_of (e.symm.trans ht) (decode rfl) hold fun b rest => cbd cbd1Value d b rest (.inl rfl)
    · exact streamStep_of (e.symm.trans ht) (decode rfl) hold fun b rest => cbd cbd2Value d b rest (.inr rfl)

/-! ### A host write -/

/-- Only one branch of the address map answers CTRL (20_memory.md R61). -/
theorem eq_of_locate_ctrl {a : BitVec 12} (h : locate a = .ctrl) : a = atByte 0x010 := by
  have haddress : 4 * a.toNat = 0x010 := by
    unfold locate at h
    grind
  exact BitVec.eq_of_toNat_eq (show a.toNat = 4 by omega)

/-- The effects of a host write (20_memory.md R64 to R70, 10_state.md R32, R34): a data file is written, a command issued and
FIFO flushed only while BUSY = 0. -/
theorem State.hostWrite_effects {P : State → Prop} (a : BitVec 12) (w : Word) (same : P s) (werr : P s.setWerr)
    (issue : s.busy = false → P (s.issue w)) (status : P (s.clearFlags w))
    (reset : a = atByte 0x010 → w.getLsbD 0 = true → P s.softReset)
    (flush : s.busy = false → P { s with FIFO := [] }) (inten : P (s.setInten w))
    (push : s.FIFO.length ≤ 60 → P { s with FIFO := s.FIFO ++ bytesOfWord w }) (sovf : P { s with sovf := true })
    (scalar : s.busy = false → ∀ r v, P (s.setScalar r v))
    (buffer : s.busy = false → ∀ k : Reg, P (s.setBytes (4 * k.val) (bytesOfWord w)))
    (coef : s.busy = false → ∀ p j v, P (s.setCoef p j v)) : P (s.hostWrite a w) := by
  unfold State.hostWrite
  cases hlocate : locate a with
  | id | cause | reserved => exact same
  | cmd =>
    show P (s.writeCmd w)
    cases hbusy : s.busy
    · exact State.writeCmd_of_idle hbusy w ▸ issue hbusy
    · exact State.writeCmd_of_busy hbusy w ▸ werr
  | status => exact status
  | ctrl =>
    show P (s.writeCtrl w)
    unfold State.writeCtrl State.flush
    split_ifs with h0 h1 hbusy
    · exact reset (eq_of_locate_ctrl hlocate) h0
    · exact werr
    · exact flush (Bool.eq_false_iff.2 hbusy)
    · exact same
  | inten => exact inten
  | streamIn =>
    show P (s.pushStream w)
    by_cases hroom : s.FIFO.length ≤ 60
    · exact s.pushStream_of_room w hroom ▸ push hroom
    · exact s.pushStream_of_full w (Nat.lt_of_not_le hroom) ▸ sovf
  | scalar r =>
    show P (s.writeScalarWindow r w)
    unfold State.writeScalarWindow
    split_ifs with hbusy
    · exact werr
    · exact scalar (Bool.eq_false_iff.2 hbusy) r _
    · exact werr
  | buffer k =>
    show P (s.writeBufferWindow k w)
    cases hbusy : s.busy
    · exact State.writeBufferWindow_of_idle hbusy k w ▸ buffer hbusy k
    · exact State.writeBufferWindow_of_busy hbusy k w ▸ werr
  | coef p j =>
    show P (s.writeCoefWindow p j w)
    unfold State.writeCoefWindow
    split_ifs with hbusy
    · exact werr
    · exact coef (Bool.eq_false_iff.2 hbusy) p _ _
    · exact werr

end Sys2Proof.Machine
end

section
/-! PROOFS. The byte steps of SAMPU, CBD1 and CBD2 field by field (44_samplers.md R202, R204, R205). -/

namespace Sys2Proof.Machine

/-! ### What both kinds of byte step keep -/

theorem EngineKeeps.sameBuf {d : Reg} {s t : State} (h : EngineKeeps d s t) (hdraws : t.draws = s.draws) : SameBuf s t :=
  ⟨fun k => by rw [State.byte, State.byte, h.buf, h.bufOrigin, hdraws], h.bufOrigin⟩

theorem EngineKeeps.byteStepKeeps {d : Reg} {s t : State} (h : EngineKeeps d s t) (hdraws : t.draws = s.draws) :
    ByteStepKeeps d s t :=
  ⟨h.polys, h.scalars, h.sameBuf hdraws, h.control, h.cur, h.rdata, h.script, hdraws⟩

/-- A byte step that leaves the command in flight. -/
theorem byteStepProgress_of_more {n : Nat} {s t : State} (hn : n ≠ 64) (hidx : t.idx = n) (hbusy : t.busy = s.busy)
    (hdone : t.done = s.done) (hdecoded : t.decoded = true) : ByteStepProgress n s t :=
  ⟨hidx, by simp [hbusy, hn], by simp [hdone, hn], by simp [hdecoded, hn]⟩

/-- A byte step that completes the command. -/
theorem byteStepProgress_of_last {n : Nat} {s t : State} (hn : n = 64) (hidx : t.idx = n) (hbusy : t.busy = false)
    (hdone : t.done = true) (hdecoded : t.decoded = false) : ByteStepProgress n s t :=
  ⟨hidx, by simp [hbusy, hn], by simp [hdone, hn], by simp [hdecoded, hn]⟩

/-! ### ACC, NB and the chunk -/

section
variable {d : Reg} {s : State}

/-- A byte enters ACC above its NB valid bits. -/
theorem State.accumulate_acc_toNat (hnb : s.nb ≤ 12) (hacc : s.acc.toNat < 2 ^ s.nb) (b : Byte) :
    (s.accumulate b).acc.toNat = s.acc.toNat + b.toNat * 2 ^ s.nb := by
  have hfits : b.toNat <<< s.nb < 2 ^ 20 := by
    rw [Nat.shiftLeft_eq]
    calc b.toNat * 2 ^ s.nb < 2 ^ 8 * 2 ^ s.nb := Nat.mul_lt_mul_of_pos_right b.isLt (Nat.two_pow_pos _)
      _ = 2 ^ (8 + s.nb) := (pow_add ..).symm
      _ ≤ 2 ^ 20 := Nat.pow_le_pow_right (by decide) (by omega)
  rw [State.accumulate_acc, BitVec.toNat_or, BitVec.toNat_shiftLeft, BitVec.toNat_setWidth,
    Nat.mod_eq_of_lt (lt_trans b.isLt (by decide)), Nat.mod_eq_of_lt hfits, Nat.shiftLeft_eq, Nat.mul_comm, Nat.or_comm,
    ← Nat.two_pow_add_eq_or_of_lt hacc, Nat.add_comm]

theorem State.takeChunk_nb : (s.takeChunk d).nb = if 13 ≤ s.nb then s.nb - 13 else s.nb := by
  unfold State.takeChunk
  split
  · exact State.offerChunk_nb ..
  · rfl

theorem State.takeChunk_acc_toNat : (s.takeChunk d).acc.toNat = if 13 ≤ s.nb then s.acc.toNat / 8192 else s.acc.toNat := by
  unfold State.takeChunk
  split
  · rw [State.offerChunk_acc, State.dropChunk_acc, BitVec.toNat_ushiftRight, Nat.shiftRight_eq_div_pow]
  · rfl

/-- A whole chunk that is accepted becomes coefficient IDX (44_samplers.md R202). -/
theorem State.takeChunk_of_accepted (h : 13 ≤ s.nb ∧ s.acc.toNat % 8192 < 7681) :
    (s.takeChunk d).PR = (s.setCoef d s.idx (s.acc.setWidth 13)).PR ∧ (s.takeChunk d).idx = s.idx + 1 := by
  obtain ⟨hwhole, hq⟩ := h
  have hlow : (s.acc.setWidth 13 : Coef).toNat < Config.q := by rwa [BitVec.toNat_setWidth]
  unfold State.takeChunk State.offerChunk
  rw [if_pos hwhole, if_pos hlow]
  exact ⟨rfl, rfl⟩

/-- With no whole chunk, or one that is not accepted, no coefficient is produced. -/
theorem State.takeChunk_of_not_accepted (h : ¬ (13 ≤ s.nb ∧ s.acc.toNat % 8192 < 7681)) :
    (s.takeChunk d).PR = s.PR ∧ (s.takeChunk d).idx = s.idx := by
  unfold State.takeChunk State.offerChunk
  rw [BitVec.toNat_setWidth]
  split_ifs with hwhole hq
  · exact absurd ⟨hwhole, hq⟩ h
  · exact ⟨rfl, rfl⟩
  · exact ⟨rfl, rfl⟩

theorem State.takeChunk_draws : (s.takeChunk d).draws = s.draws := by
  unfold State.takeChunk State.offerChunk
  split_ifs <;> rfl

/-! ### SAMPU's byte step -/

theorem State.finishSampu_fields (s : State) :
    s.finishSampu.PR = s.PR ∧ s.finishSampu.idx = s.idx ∧ s.finishSampu.draws = s.draws ∧
      s.finishSampu.acc = (if s.idx = 64 then 0 else s.acc) ∧ s.finishSampu.nb = if s.idx = 64 then 0 else s.nb := by
  unfold State.finishSampu
  split_ifs <;> exact ⟨rfl, rfl, rfl, rfl, rfl⟩

/-- BUSY, DONE and the decode mark after a byte step that has brought IDX to `n`. -/
theorem State.finishSampu_progress (hdecoded : s.decoded = true) : ByteStepProgress s.idx s s.finishSampu := by
  by_cases h : s.idx = 64
  · rw [State.finishSampu_of_last h]
    exact byteStepProgress_of_last h rfl rfl rfl rfl
  · rw [State.finishSampu_of_more h]
    exact byteStepProgress_of_more h rfl rfl rfl hdecoded

theorem sampuByte_draws (d : Reg) (b : Byte) (s : State) : (sampuByte d b s).draws = s.draws := by
  obtain ⟨-, -, hdraws, -⟩ := ((s.accumulate b).takeChunk d).finishSampu_fields
  exact hdraws.trans State.takeChunk_draws

theorem sampuByte_progress {b : Byte} (hdecoded : s.decoded = true) {n : Nat}
    (hn : ((s.accumulate b).takeChunk d).idx = n) : ByteStepProgress n s (sampuByte d b s) := by
  obtain ⟨-, hbusy, hdone, hdecoded'⟩ := (s.accumulate b).takeChunk_control d
  have h := State.finishSampu_progress (hdecoded'.trans hdecoded)
  rwa [hn, ByteStepProgress, hbusy, hdone] at h

section
variable (hnb : s.nb ≤ 12) (hacc : s.acc.toNat < 2 ^ s.nb) {b : Byte} {acc : Nat}
  (hsum : acc = s.acc.toNat + b.toNat * 2 ^ s.nb)
include hnb hacc hsum

/-- The check on the chunk, by the bits that ACC held before the byte. -/
theorem State.chunk_accepted_iff :
    (13 ≤ (s.accumulate b).nb ∧ (s.accumulate b).acc.toNat % 8192 < 7681) ↔ 5 ≤ s.nb ∧ acc % 8192 < 7681 := by
  rw [State.accumulate_acc_toNat hnb hacc, ← hsum, State.accumulate_nb]
  exact and_congr_left' (by omega)

theorem State.accumulate_takeChunk_idx : ((s.accumulate b).takeChunk d).idx =
    if 5 ≤ s.nb ∧ acc % 8192 < 7681 then s.idx + 1 else s.idx := by
  have hiff := State.chunk_accepted_iff hnb hacc hsum
  split_ifs with h
  · exact (State.takeChunk_of_accepted (hiff.2 h)).2
  · exact (State.takeChunk_of_not_accepted (mt hiff.1 h)).2

/-- The lanes of PR[d] after a byte step. -/
theorem sampuByte_get (j : Lane) : ((sampuByte d b s).PR.get d).get j =
    if 5 ≤ s.nb ∧ acc % 8192 < 7681 ∧ j.val = s.idx then ⟨BitVec.ofNat 13 (acc % 8192), .written⟩
    else (s.PR.get d).get j := by
  have hiff := State.chunk_accepted_iff hnb hacc hsum
  have hchunk : (s.accumulate b).acc.setWidth 13 = BitVec.ofNat 13 (acc % 8192) := by
    rw [hsum, ← State.accumulate_acc_toNat hnb hacc]
    exact BitVec.eq_of_toNat_eq (by rw [BitVec.toNat_setWidth, BitVec.toNat_ofNat, Nat.mod_mod])
  obtain ⟨hPR, -⟩ := ((s.accumulate b).takeChunk d).finishSampu_fields
  rw [sampuByte, hPR]
  by_cases h : 5 ≤ s.nb ∧ acc % 8192 < 7681
  · rw [(State.takeChunk_of_accepted (hiff.2 h)).1, State.setCoef_get, hchunk]
    simp only [h, true_and]
    rfl
  · rw [(State.takeChunk_of_not_accepted (mt hiff.1 h)).1, if_neg fun hj => h ⟨hj.1, hj.2.1⟩]
    rfl

/-- ACC and NB after a byte step that has brought IDX to `n`. -/
theorem sampuByte_acc_nb {n : Nat} (hn : ((s.accumulate b).takeChunk d).idx = n) :
    (sampuByte d b s).acc.toNat = (if n = 64 then 0 else if 5 ≤ s.nb then acc / 8192 else acc) ∧
      (sampuByte d b s).nb = if n = 64 then 0 else if 5 ≤ s.nb then s.nb - 5 else s.nb + 8 := by
  obtain ⟨-, -, -, hacc', hnb'⟩ := ((s.accumulate b).takeChunk d).finishSampu_fields
  have hwhole : 13 ≤ s.nb + 8 ↔ 5 ≤ s.nb := by omega
  rw [sampuByte, hacc', hnb', hn, State.takeChunk_nb, apply_ite BitVec.toNat, State.takeChunk_acc_toNat,
    State.accumulate_acc_toNat hnb hacc, ← hsum, State.accumulate_nb]
  simp only [hwhole, Nat.add_sub_add_right s.nb 8 5]
  exact ⟨rfl, trivial⟩

end

end

/-- Settles O29: the byte enters ACC, the chunk, if it is whole, leaves it, and the 64th coefficient ends the command. -/
theorem sampuByteStep : Obligations.SampuByteStep := by
  intro d s b rest acc n hdecoded hfifo hnb hacc hidx hsum hn
  have hstep := streamStep_of_byte hdecoded hfifo (show s.idx + 1 ≤ 64 from hidx) (sampuByte d)
  have hn' : ((State.accumulate { s with FIFO := rest } b).takeChunk d).idx = n :=
    (State.accumulate_takeChunk_idx (s := { s with FIFO := rest }) hnb hacc hsum).trans hn.symm
  obtain ⟨hacc', hnb'⟩ := sampuByte_acc_nb (s := { s with FIFO := rest }) hnb hacc hsum hn'
  exact ⟨_, hstep, sampuByte_FIFO .., (sampuByte_keeps ..).byteStepKeeps (sampuByte_draws ..),
    sampuByte_progress (s := { s with FIFO := rest }) hdecoded hn', sampuByte_get (s := { s with FIFO := rest }) hnb hacc hsum,
    hacc', hnb'⟩

/-! ### The byte step of CBD1 and CBD2 -/

section
variable (value : Nat → Coef) (d : Reg) (b : Byte) (s : State)

theorem cbdByte_draws : (cbdByte value d b s).draws = s.draws := by
  unfold cbdByte
  split <;> rfl

theorem cbdByte_acc_nb : (cbdByte value d b s).acc = s.acc ∧ (cbdByte value d b s).nb = s.nb := by
  unfold cbdByte
  split <;> exact ⟨rfl, rfl⟩

theorem cbdByte_progress (hdecoded : s.decoded = true) : ByteStepProgress (s.idx + 2) s (cbdByte value d b s) := by
  unfold cbdByte
  by_cases h : s.idx + 2 = 64
  · rw [if_pos h]
    exact byteStepProgress_of_last h rfl rfl rfl rfl
  · rw [if_neg h]
    exact byteStepProgress_of_more h rfl rfl rfl hdecoded

/-- The byte step in the terms of the nibble-to-value table of its command. -/
theorem cbdByte_step {table : Nat → Nat} (htable : ∀ n < 16, (value n).toNat = table n) (hdecoded : s.decoded = true)
    {rest : List Byte} : CbdByteStep table d b rest s (cbdByte value d b { s with FIFO := rest }) := by
  have hvalue : ∀ n < 16, Cell.ofWrite (value n) = ⟨BitVec.ofNat 13 (table n), .written⟩ := fun n hn => by
    rw [← htable n hn, BitVec.ofNat_toNat, BitVec.setWidth_eq]
    rfl
  have hb : b.toNat < 256 := b.isLt
  have hlow : nibble b 0 = b.toNat % 16 := by simp [nibble]
  have hhigh : nibble b 1 = b.toNat / 16 := Nat.mod_eq_of_lt (show b.toNat / 16 < 16 by omega)
  obtain ⟨hacc, hnb⟩ := cbdByte_acc_nb value d b { s with FIFO := rest }
  refine ⟨cbdByte_FIFO .., (cbdByte_keeps ..).byteStepKeeps (cbdByte_draws ..),
    cbdByte_progress value d b { s with FIFO := rest } hdecoded, hacc, hnb, fun j => ?_⟩
  rw [cbdByte_get, hlow, hhigh, hvalue _ (by omega), hvalue _ (by omega)]
  show (if j.val = s.idx + 1 then _ else if j.val = s.idx then _ else _) = _
  by_cases hj : j.val = s.idx
  · rw [if_neg (by omega), if_pos hj, if_pos hj]
  · rw [if_neg hj, if_neg hj]

end

/-- Settles O30: each of the two byte steps with its table. -/
theorem cbdByteSteps : Obligations.CbdByteSteps := by
  intro d s b rest hdecoded hfifo hidx
  exact ⟨⟨_, streamStep_of_byte hdecoded hfifo hidx _, cbdByte_step _ d b s cbd1Value_toNat hdecoded⟩,
    _, streamStep_of_byte hdecoded hfifo hidx _, cbdByte_step _ d b s cbd2Value_toNat hdecoded⟩

/-! ### The decode step and the hold -/

section
variable {s : State} {n : Nat} (f : Byte → State → State)

theorem streamStep_of_undecoded (hdecoded : s.decoded = false) : streamStep n f s = .next { s with decoded := true } := by
  rw [streamStep, hdecoded, if_neg Bool.false_ne_true]

theorem streamStep_of_empty (hdecoded : s.decoded = true) (hfifo : s.FIFO = []) : streamStep n f s = .next s := by
  rw [streamStep, if_pos hdecoded, hfifo]

theorem streamStep_of_no_lane (hdecoded : s.decoded = true) {b : Byte} {rest : List Byte} (hfifo : s.FIFO = b :: rest)
    (hidx : 64 < s.idx + n) : streamStep n f s = .fault .noSuchLane := by
  rw [streamStep, if_pos hdecoded, hfifo]
  exact if_neg (Nat.not_le_of_lt hidx)

end

theorem exec_of_isStream {i : Instr} (h : isStream i = true) : ∃ n f, ∀ s, exec i s = streamStep n f s := by
  obtain ⟨d, rfl | rfl | rfl⟩ := (isStream_iff i).1 h
  · exact ⟨1, sampuByte d, fun _ => rfl⟩
  · exact ⟨2, cbdByte cbd1Value d, fun _ => rfl⟩
  · exact ⟨2, cbdByte cbd2Value d, fun _ => rfl⟩

theorem State.curIsStream_of_decode {s : State} {i : Instr} (h : decode s.cur = .ok i) : s.curIsStream = isStream i := by
  rw [State.curIsStream, h]

/-- Settles O28: the first step only sets the mark, an empty FIFO holds the command, and a push of four bytes ends SWAIT. -/
theorem streamCommandsDecodeThenHold : Obligations.StreamCommandsDecodeThenHold := by
  intro i s hstream
  obtain ⟨n, f, hexec⟩ := exec_of_isStream hstream
  rw [hexec]
  refine ⟨streamStep_of_undecoded f, streamStep_of_empty f, fun hbusy hcur hfifo => ⟨?_, fun w => ?_⟩⟩
  · have hdecode : decode s.cur = .ok i := hcur ▸ decode_encode i
    exact s.swait_iff.2 ⟨hbusy, hfifo, (State.curIsStream_of_decode hdecode).trans hstream⟩
  · rw [State.hostWrite_streamIn, s.pushStream_of_room w (by simp [hfifo]), hfifo, List.nil_append]
    exact ⟨Bool.and_false _, bytesOfWord_length w⟩

end Sys2Proof.Machine
end

section
/-! PROOFS. The invariants of BUF and FIFO, of the control state and of the stream state over every step (10_state.md R26, R29,
R36, R37, 40_command.md R120, R124). -/

namespace Sys2Proof.Machine

variable {s t : State}

/-! ### The two byte steps at once -/

/-- What the invariants need of a byte step, of either kind. -/
structure ByteStep (d : Reg) (s t : State) : Prop extends EngineKeeps d s t where
  fifo : t.FIFO = s.FIFO
  progress : ByteStepProgress t.idx s t

theorem sampuByte_byteStep (d : Reg) (b : Byte) (h : s.decoded = true) : ByteStep d s (sampuByte d b s) := by
  have hprogress := sampuByte_progress (d := d) (b := b) h rfl
  have ⟨hidx, _⟩ := hprogress
  exact ⟨sampuByte_keeps d b s, sampuByte_FIFO d b s, by rwa [hidx]⟩

theorem cbdByte_byteStep (value : Nat → Coef) (d : Reg) (b : Byte) (h : s.decoded = true) :
    ByteStep d s (cbdByte value d b s) :=
  ⟨cbdByte_keeps value d b s, cbdByte_FIFO value d b s, by rw [cbdByte_idx]; exact cbdByte_progress value d b s h⟩

/-- A byte step that leaves a command in flight found it in flight. -/
theorem ByteStep.of_busy {d : Reg} (h : ByteStep d s t) (hbusy : t.busy = true) :
    s.busy = true ∧ t.idx ≠ 64 ∧ t.done = s.done := by
  obtain ⟨-, hb, hd, -⟩ := h.progress
  rw [hb, Bool.and_eq_true, bne_iff_ne] at hbusy
  obtain ⟨hs, hidx⟩ := hbusy
  exact ⟨hs, hidx, by simp [hd, hidx]⟩

/-! ### BUF and FIFO -/

/-- The invariant speaks of BUF and FIFO alone. -/
theorem State.StorageInRange.of_same (h : s.StorageInRange) (hbuf : t.BUF = s.BUF) (hfifo : t.FIFO = s.FIFO) :
    t.StorageInRange := by
  rwa [State.StorageInRange, hbuf, hfifo]

/-- FIFO loses its head with each byte step, and BUF is as before. -/
theorem State.StorageInRange.byteStep (h : s.StorageInRange) {d : Reg} {b : Byte} {rest : List Byte}
    (hfifo : s.FIFO = b :: rest) (hbyte : ByteStep d { s with FIFO := rest } t) : t.StorageInRange := by
  obtain ⟨hwf, hlen⟩ := h
  rw [hfifo, List.length_cons] at hlen
  exact ⟨by rw [hbyte.buf]; exact hwf, by rw [hbyte.fifo]; exact Nat.le_of_succ_le hlen⟩

theorem State.StorageInRange.setBytes (h : s.StorageInRange) {k : Nat} {bs : List Byte} (hk : k + bs.length ≤ 128) :
    (s.setBytes k bs).StorageInRange := by
  obtain ⟨hwf, hlen⟩ := h
  exact ⟨Memory.store_wf bs s.BUF k hwf hk, hlen⟩

theorem State.StorageInRange.exec (h : s.StorageInRange) {i : Instr} (ht : exec i s = .next t) : t.StorageInRange := by
  apply exec_of ht
  case complete | decode | hold => intros; exact h.of_same rfl rfl
  case error | scalar | poly => intros; exact h.of_same rfl rfl
  case bytes => exact fun bs _ _ hlen => h.setBytes (k := 0) (by omega)
  case sampu => exact fun d b rest _ hd hfifo _ => h.byteStep hfifo (sampuByte_byteStep d b hd)
  case cbd => exact fun value d b rest _ hd hfifo _ => h.byteStep hfifo (cbdByte_byteStep value d b hd)

theorem State.StorageInRange.hostWrite (h : s.StorageInRange) (a : BitVec 12) (w : Word) :
    (s.hostWrite a w).StorageInRange := by
  have ⟨hwf, hlen⟩ := h
  apply State.hostWrite_effects
  case reset => exact fun _ _ => ⟨(congrArg Memory.wf State.abort_BUF).mpr hwf, Nat.zero_le _⟩
  case flush => exact fun _ => ⟨hwf, Nat.zero_le _⟩
  case push => exact fun hroom => ⟨hwf, by
    rw [List.length_append, bytesOfWord_length]
    exact Nat.add_le_add_right hroom 4⟩
  case buffer => exact fun _ k => h.setBytes (by rw [bytesOfWord_length]; omega)
  all_goals intros; exact h.of_same rfl rfl

/-- Settles O55: a store stays inside BUF, a push has room in FIFO, and nothing else adds to either. -/
theorem stepKeepsStorage : Obligations.StepKeepsStorage := by
  intro s t h ht
  have hadv : s.advance.StorageInRange := h.of_same rfl rfl
  apply step_of ht rfl
  case idle => exact hadv
  case error => exact fun _ => hadv.of_same rfl rfl
  case run => exact fun i _ _ ht => hadv.exec ht
  case read => exact fun _ => hadv.of_same rfl rfl
  case write => exact hadv.hostWrite
  case reset => exact ⟨⟨List.Pairwise.nil, nofun⟩, Nat.zero_le _⟩

/-! ### The control state -/

/-- The invariant speaks of six fields. -/
theorem State.ControlConsistent.of_same (h : s.ControlConsistent) (hbusy : t.busy = s.busy) (hdone : t.done = s.done)
    (hcur : t.cur = s.cur) (hlast : t.lastCmd = s.lastCmd) (herr : t.err = s.err) (hcause : t.cause = s.cause) :
    t.ControlConsistent := by
  rwa [State.ControlConsistent, hbusy, hdone, hcur, hlast, herr, hcause]

/-- With no command in flight only ERR and CAUSE are left to agree. -/
theorem State.ControlConsistent.of_idle (h : s.ControlConsistent) (hbusy : t.busy = false) (herr : t.err = s.err)
    (hcause : t.cause = s.cause) : t.ControlConsistent := by
  obtain ⟨-, herror⟩ := h
  rw [State.ControlConsistent, herr, hcause]
  exact ⟨fun hb => absurd (hbusy.symm.trans hb) Bool.false_ne_true, herror⟩

/-- A command error sets ERR with a code of R271. -/
theorem State.cmdError_controlConsistent (s : State) (e : CmdError) : (s.cmdError e).ControlConsistent := by
  refine ⟨nofun, ?_, ?_⟩
  · cases e <;> simp [errorCode]
  · cases e <;> simp [errorCode]

theorem State.ControlConsistent.byteStep (h : s.ControlConsistent) {d : Reg} (hbyte : ByteStep d s t) :
    t.ControlConsistent := by
  obtain ⟨hflight, herror⟩ := h
  obtain ⟨herr, -, -, hcause, hlast, -⟩ := hbyte.control
  rw [State.ControlConsistent, herr, hcause, hlast, hbyte.cur]
  refine ⟨fun hbusy => ?_, herror⟩
  obtain ⟨hs, -, hdone⟩ := hbyte.of_busy hbusy
  rw [hdone]
  exact hflight hs

theorem State.ControlConsistent.exec (h : s.ControlConsistent) {i : Instr} (ht : exec i s = .next t) :
    t.ControlConsistent := by
  have hpop : ∀ rest, ({ s with FIFO := rest } : State).ControlConsistent := fun rest => h.of_same rfl rfl rfl rfl rfl rfl
  apply exec_of ht
  case complete | scalar | poly | bytes => intros; exact h.of_idle rfl rfl rfl
  case error => exact s.cmdError_controlConsistent
  case decode => exact fun _ => h.of_same rfl rfl rfl rfl rfl rfl
  case hold => exact h
  case sampu => exact fun d b rest _ hd _ _ => (hpop rest).byteStep (sampuByte_byteStep d b hd)
  case cbd => exact fun value d b rest _ hd _ _ => (hpop rest).byteStep (cbdByte_byteStep value d b hd)

/-- A write to STATUS clears CAUSE with ERR (10_state.md R29), and DONE is clear already while a command is in flight. -/
theorem State.ControlConsistent.clearFlags (h : s.ControlConsistent) (w : Word) : (s.clearFlags w).ControlConsistent := by
  obtain ⟨hflight, herr, hcause⟩ := h
  refine ⟨fun hbusy => ?_, ?_⟩
  · obtain ⟨hdone, hcur⟩ := hflight hbusy
    exact ⟨by rw [State.clearFlags_done, hdone, Bool.false_and], hcur⟩
  · rw [State.clearFlags_err, State.clearFlags_cause]
    cases w.getLsbD 2 with
    | false => exact ⟨by simpa using herr, hcause⟩
    | true => simp

theorem State.clearControl_controlConsistent (s : State) : s.clearControl.ControlConsistent :=
  ⟨nofun, by simp, by simp⟩

theorem State.ControlConsistent.hostWrite (h : s.ControlConsistent) (a : BitVec 12) (w : Word) :
    (s.hostWrite a w).ControlConsistent := by
  apply State.hostWrite_effects
  case issue =>
    obtain ⟨-, herror⟩ := h
    exact fun _ => ⟨fun _ => ⟨rfl, rfl⟩, herror⟩
  case status => exact h.clearFlags w
  case reset => exact fun _ _ => s.abort.clearControl_controlConsistent
  all_goals intros; exact h.of_same rfl rfl rfl rfl rfl rfl

/-- Settles O56: an issue clears DONE and loads LASTCMD with CUR, a completion clears BUSY, and ERR and CAUSE move together. -/
theorem stepKeepsControlConsistent : Obligations.StepKeepsControlConsistent := by
  intro s t h ht
  have hadv : s.advance.ControlConsistent := h.of_same rfl rfl rfl rfl rfl rfl
  apply step_of ht rfl
  case idle => exact hadv
  case error => exact s.advance.cmdError_controlConsistent
  case run => exact fun i _ _ ht => hadv.exec ht
  case read => exact fun _ => hadv.of_same rfl rfl rfl rfl rfl rfl
  case write => exact hadv.hostWrite
  case reset => exact State.clearControl_controlConsistent s.advance.hardReset

/-! ### The stream state -/

/-- The invariant speaks of six fields. -/
theorem State.StreamInRange.of_same (h : s.StreamInRange) (hnb : t.nb = s.nb) (hacc : t.acc = s.acc)
    (hbusy : t.busy = s.busy) (hidx : t.idx = s.idx) (hcur : t.cur = s.cur) (hdecoded : t.decoded = s.decoded) :
    t.StreamInRange := by
  rwa [State.StreamInRange, State.curIsStream, hnb, hacc, hbusy, hidx, hcur, hdecoded]

/-- With no command in flight only ACC and NB are left to be in range. -/
theorem streamInRange_of_idle (hnb : t.nb ≤ 12) (hacc : t.acc.toNat < 2 ^ t.nb) (hbusy : t.busy = false)
    (hdecoded : t.decoded = false) : t.StreamInRange :=
  ⟨hnb, hacc, fun hb => absurd (hbusy.symm.trans hb) Bool.false_ne_true,
    fun hd => absurd (hdecoded.symm.trans hd) Bool.false_ne_true⟩

theorem State.StreamInRange.of_ended (h : s.StreamInRange) (hnb : t.nb = s.nb) (hacc : t.acc = s.acc) (hbusy : t.busy = false)
    (hdecoded : t.decoded = false) : t.StreamInRange := by
  obtain ⟨hnb', hacc', -⟩ := h
  exact streamInRange_of_idle (by rwa [hnb]) (by rwa [hnb, hacc]) hbusy hdecoded

/-- A byte step of a stream command in flight, given the ranges of ACC and NB after it and the parity of IDX. -/
theorem State.StreamInRange.byteStep (h : s.StreamInRange) {d : Reg} (hbyte : ByteStep d s t) (hdecoded : s.decoded = true)
    (hnb : t.nb ≤ 12) (hacc : t.acc.toNat < 2 ^ t.nb) (hidx : t.idx ≤ 64)
    (heven : ∀ d : Reg, decode s.cur = .ok (.cbd1 d) ∨ decode s.cur = .ok (.cbd2 d) → t.idx % 2 = 0) : t.StreamInRange := by
  obtain ⟨-, -, -, hmark⟩ := h
  obtain ⟨hbusy, hstream⟩ := hmark hdecoded
  obtain ⟨-, hb, -, hd⟩ := hbyte.progress
  refine ⟨hnb, hacc, fun ht => ⟨?_, ?_⟩, fun ht => ⟨?_, ?_⟩⟩
  · obtain ⟨-, hne, -⟩ := hbyte.of_busy ht
    omega
  · rwa [hbyte.cur]
  · rw [hb, hbusy, Bool.true_and, ← hd, ht]
  · rwa [State.curIsStream, hbyte.cur]

/-- The bits of ACC above NB stay 0 (44_samplers.md R202). -/
theorem sampuByte_acc_lt (hnb : s.nb ≤ 12) (hacc : s.acc.toNat < 2 ^ s.nb) (d : Reg) (b : Byte) :
    (sampuByte d b s).nb ≤ 12 ∧ (sampuByte d b s).acc.toNat < 2 ^ (sampuByte d b s).nb := by
  obtain ⟨hacc', hnb'⟩ := sampuByte_acc_nb (d := d) (b := b) hnb hacc rfl rfl
  have hsum : s.acc.toNat + b.toNat * 2 ^ s.nb < 2 ^ (s.nb + 8) := by
    have hb : b.toNat + 1 ≤ 2 ^ 8 := b.isLt
    calc s.acc.toNat + b.toNat * 2 ^ s.nb < (b.toNat + 1) * 2 ^ s.nb := by rw [Nat.succ_mul]; omega
      _ ≤ 2 ^ 8 * 2 ^ s.nb := Nat.mul_le_mul_right _ hb
      _ = 2 ^ (s.nb + 8) := by rw [Nat.add_comm, pow_add]
  rw [hacc', hnb']
  split_ifs with hlast hwhole
  · exact ⟨by decide, by decide⟩
  · refine ⟨by omega, Nat.div_lt_of_lt_mul ?_⟩
    have hpow : 8192 * 2 ^ (s.nb - 5) = 2 ^ (s.nb + 8) := by
      rw [show 8192 = 2 ^ 13 from rfl, ← pow_add]
      congr 1
      omega
    rwa [hpow]
  · exact ⟨by omega, hsum⟩

theorem sampuByte_idx_le (d : Reg) (b : Byte) : (sampuByte d b s).idx ≤ s.idx + 1 := by
  obtain ⟨-, hidx, -⟩ := ((s.accumulate b).takeChunk d).finishSampu_fields
  exact hidx.trans_le ((s.accumulate b).takeChunk_idx_le d)

theorem State.StreamInRange.sampuByte (h : s.StreamInRange) {d : Reg} (hcur : decode s.cur = .ok (.sampu d))
    (hdecoded : s.decoded = true) (hidx : s.idx + 1 ≤ 64) (b : Byte) : (sampuByte d b s).StreamInRange := by
  have ⟨hnb, hacc, _⟩ := h
  obtain ⟨hnb', hacc'⟩ := sampuByte_acc_lt hnb hacc d b
  refine h.byteStep (sampuByte_byteStep d b hdecoded) hdecoded hnb' hacc' ((sampuByte_idx_le d b).trans hidx) fun c hc => ?_
  simp [hcur] at hc

theorem State.StreamInRange.cbdByte (h : s.StreamInRange) {d : Reg}
    (hcur : decode s.cur = .ok (.cbd1 d) ∨ decode s.cur = .ok (.cbd2 d)) (hdecoded : s.decoded = true)
    (hidx : s.idx + 2 ≤ 64) (value : Nat → Coef) (b : Byte) : (cbdByte value d b s).StreamInRange := by
  have ⟨hnb, hacc, hflight, hmark⟩ := h
  obtain ⟨hbusy, -⟩ := hmark hdecoded
  obtain ⟨-, heven⟩ := hflight hbusy
  obtain ⟨hacc', hnb'⟩ := cbdByte_acc_nb value d b s
  refine h.byteStep (cbdByte_byteStep value d b hdecoded) hdecoded (by rwa [hnb']) (by rwa [hnb', hacc']) ?_ fun _ _ => ?_
  · rwa [cbdByte_idx]
  · rw [cbdByte_idx, Nat.add_mod_right]
    exact heven d hcur

theorem State.StreamInRange.exec (h : s.StreamInRange) {i : Instr} (hbusy : s.busy = true) (hcur : decode s.cur = .ok i)
    (ht : exec i s = .next t) : t.StreamInRange := by
  have hpop : ∀ rest, ({ s with FIFO := rest } : State).StreamInRange := fun rest => h.of_same rfl rfl rfl rfl rfl rfl
  apply exec_of ht
  case complete | error | scalar | poly | bytes => intros; exact h.of_ended rfl rfl rfl rfl
  case decode =>
    obtain ⟨hnb, hacc, hflight, -⟩ := h
    exact fun hstream => ⟨hnb, hacc, hflight, fun _ => ⟨hbusy, (State.curIsStream_of_decode hcur).trans hstream⟩⟩
  case hold => exact h
  case sampu =>
    rintro d b rest rfl hd - hidx
    exact (hpop rest).sampuByte hcur hd hidx b
  case cbd =>
    rintro value d b rest (rfl | rfl) hd - hidx
    · exact (hpop rest).cbdByte (.inl hcur) hd hidx value b
    · exact (hpop rest).cbdByte (.inr hcur) hd hidx value b

theorem State.clearControl_streamInRange (s : State) : s.clearControl.StreamInRange :=
  streamInRange_of_idle (Nat.zero_le _) Nat.one_pos rfl rfl

theorem State.StreamInRange.hostWrite (h : s.StreamInRange) (a : BitVec 12) (w : Word) :
    (s.hostWrite a w).StreamInRange := by
  apply State.hostWrite_effects
  case issue => exact fun _ => ⟨Nat.zero_le _, Nat.one_pos, fun _ => ⟨Nat.zero_lt_succ 63, fun _ _ => rfl⟩, nofun⟩
  case reset => exact fun _ _ => s.abort.clearControl_streamInRange
  all_goals intros; exact h.of_same rfl rfl rfl rfl rfl rfl

/-- Settles O57: a byte step moves IDX by its lanes and keeps ACC below 2^NB, and an issue or a reset sets all of them to 0. -/
theorem stepKeepsStreamInRange : Obligations.StepKeepsStreamInRange := by
  intro s t h ht
  have hadv : s.advance.StreamInRange := h.of_same rfl rfl rfl rfl rfl rfl
  apply step_of ht rfl
  case idle => exact hadv
  case error => exact fun _ => hadv.of_ended rfl rfl rfl rfl
  case run => exact fun i hbusy hcur ht => hadv.exec hbusy hcur ht
  case read => exact fun _ => hadv.of_same rfl rfl rfl rfl rfl rfl
  case write => exact hadv.hostWrite
  case reset => exact State.clearControl_streamInRange s.advance.hardReset

/-! ### At reset -/

/-- Settles O53: nothing is stored or in flight, no error is recorded and no cell is written. -/
theorem resetMeetsTheInvariants : Obligations.ResetMeetsTheInvariants :=
  ⟨State.reset_canonical, ⟨⟨List.Pairwise.nil, nofun⟩, Nat.zero_le _⟩, State.clearControl_controlConsistent State.reset,
    State.clearControl_streamInRange State.reset⟩

end Sys2Proof.Machine
end

section
/-! PROOFS. The machine never stops on its own (60_exceptions.md R270): in the ranges of R37 every lane that a byte step writes
exists. -/

namespace Sys2Proof.Machine

variable {s : State}

theorem streamStep_next {n : Nat} (f : Byte → State → State) (hlane : s.idx + n ≤ 64) :
    ∃ t, streamStep n f s = .next t := by
  obtain ⟨-, e⟩ | ⟨-, -, e⟩ | ⟨b, rest, -, -, -, e⟩ | ⟨b, rest, -, -, hbad, -⟩ := streamStep_cases n f s
  · exact ⟨_, e⟩
  · exact ⟨_, e⟩
  · exact ⟨_, e⟩
  · exact absurd hlane (Nat.not_le_of_lt hbad)

/-- A command's engine step answers a next state when its next lanes exist. -/
theorem exec_next {i : Instr} (sampu : ∀ d, i = .sampu d → s.idx + 1 ≤ 64)
    (cbd : ∀ d, i = .cbd1 d ∨ i = .cbd2 d → s.idx + 2 ≤ 64) : ∃ t, exec i s = .next t := by
  obtain ⟨-, e⟩ | ⟨d, v, -, -, e⟩ | ⟨d, v, -, -, e⟩ | ⟨a, bs, -, e⟩ | ⟨c, -, e⟩ | ⟨d, hstream⟩ :=
    exec_cases i s
  · exact ⟨_, e⟩
  · exact ⟨_, e⟩
  · exact ⟨_, e⟩
  · exact ⟨_, e⟩
  · exact ⟨_, e⟩
  · obtain ⟨hi, e⟩ | ⟨hi, e⟩ | ⟨hi, e⟩ := hstream
    · exact e ▸ streamStep_next _ (sampu d hi)
    · exact e ▸ streamStep_next _ (cbd d (.inl hi))
    · exact e ▸ streamStep_next _ (cbd d (.inr hi))

theorem State.StreamInRange.engineStep_next (h : s.StreamInRange) : ∃ t, engineStep s = .next t := by
  obtain ⟨-, -, hflight, -⟩ := h
  obtain ⟨-, e⟩ | ⟨err, -, -, e⟩ | ⟨i, hbusy, hcur, e⟩ := engineStep_cases s
  · exact ⟨_, e⟩
  · exact ⟨_, e⟩
  · obtain ⟨hidx, heven⟩ := hflight hbusy
    refine e ▸ exec_next (fun _ _ => hidx) fun d hi => ?_
    have hparity : s.idx % 2 = 0 := heven d (by simpa [hcur] using hi)
    omega

/-- Settles O58, event by event: an engine step has its lanes, and only the access of another width is refused. -/
theorem onlyAnotherWidthStopsAStep : Obligations.OnlyAnotherWidthStopsAStep := by
  intro s h
  have hadv : s.advance.StreamInRange := h.of_same rfl rfl rfl rfl rfl rfl
  obtain ⟨-, e⟩ | ⟨a, -, e⟩ | ⟨a, w, -, e⟩ | hwidth | ⟨-, e⟩ := step_cases s
  · exact .inl (e ▸ hadv.engineStep_next)
  · exact .inl ⟨_, e⟩
  · exact .inl ⟨_, e⟩
  · exact .inr hwidth
  · exact .inl ⟨_, e⟩

end Sys2Proof.Machine
end

section
/-! PROOFS. A command whose sources have been written makes no draw (10_state.md R39, 70_reset_and_hazards.md R304): it finds the
cells' values, and the counter of draws takes no part in what it does with them. -/

namespace Sys2Proof.Machine

variable {s : State} (n : Nat)

/-! ### Written sources -/

theorem State.scalar_draws {r : Reg} (h : s.scalarWritten r = true) :
    State.scalar { s with draws := n } r = s.scalar r := by
  have hlost : (s.S.get r).origin ≠ .lost := by simp [beq_iff_eq.1 h]
  rw [s.scalar_of_not_lost r hlost]
  exact State.scalar_of_not_lost { s with draws := n } r hlost

theorem State.poly_draws {p : Reg} (h : s.polyWritten p = true) : State.poly { s with draws := n } p = s.poly p := by
  refine vector_ext_get _ _ fun j => ?_
  have hmem : (s.PR.get p).get j ∈ (s.PR.get p).toList := Vector.mem_toList_iff.2 (Vector.getElem_mem j.isLt)
  have hlost : ((s.PR.get p).get j).origin ≠ .lost := by simp [beq_iff_eq.1 (List.all_eq_true.1 h _ hmem)]
  rw [State.poly_get, State.poly_get, s.coef_of_not_lost p j hlost]
  exact State.coef_of_not_lost { s with draws := n } p j hlost

theorem State.bytes_draws {m : Nat} (h : s.bytesWritten 0 m = true) : State.bytes { s with draws := n } m = s.bytes m := by
  refine List.map_congr_left fun k hk => ?_
  have hwritten : s.bufOrigin[k]? = some .written := by simpa using List.all_eq_true.1 h k hk
  simp only [State.byte, hwritten]

/-! ### The effects of a command -/

theorem next_scalarResult_draws (f : Coef → Coef → Coef) (d : Reg) {a b : Reg} (ha : s.scalarWritten a = true)
    (hb : s.scalarWritten b = true) :
    .next (scalarResult f d a b { s with draws := n }) = withDraws n (.next (scalarResult f d a b s)) := by
  rw [scalarResult, State.scalar_draws n ha, State.scalar_draws n hb]
  rfl

theorem next_polyResult_draws (d : Reg) {v v' : Poly} (h : v' = v) :
    .next (polyResult d v' { s with draws := n }) = withDraws n (.next (polyResult d v s)) := by
  rw [h]
  rfl

theorem next_bytesResult_draws {bs bs' : List Byte} (h : bs' = bs) :
    .next (bytesResult bs' { s with draws := n }) = withDraws n (.next (bytesResult bs s)) := by
  rw [h]
  rfl

theorem execSinv_draws (d : Reg) {a : Reg} (ha : s.scalarWritten a = true) :
    execSinv d a { s with draws := n } = withDraws n (execSinv d a s) := by
  unfold execSinv
  rw [State.scalar_draws n ha, apply_ite (withDraws n)]
  rfl

theorem execDes13_draws (d : Reg) (h : s.bytesWritten 0 104 = true) :
    execDes13 d { s with draws := n } = withDraws n (execDes13 d s) := by
  unfold execDes13
  rw [State.bytes_draws n h, apply_ite (withDraws n)]
  rfl

/-! ### Stream commands, which read no register -/

theorem streamStep_draws (m : Nat) {f : Byte → State → State}
    (hf : ∀ b u, f b { u with draws := n } = { f b u with draws := n }) :
    streamStep m f { s with draws := n } = withDraws n (streamStep m f s) := by
  obtain ⟨hd, e⟩ | ⟨hd, hfifo, e⟩ | ⟨b, rest, hd, hfifo, hidx, e⟩ | ⟨b, rest, hd, hfifo, hidx, e⟩ :=
    streamStep_cases m f s
  · rw [e, streamStep_of_undecoded f (s := { s with draws := n }) hd]
    rfl
  · rw [e, streamStep_of_empty f (s := { s with draws := n }) hd hfifo]
    rfl
  · rw [e, streamStep_of_byte (s := { s with draws := n }) hd hfifo hidx f]
    exact congrArg Host.Outcome.next (hf b { s with FIFO := rest })
  · rw [e, streamStep_of_no_lane f (s := { s with draws := n }) hd hfifo hidx]
    rfl

theorem State.offerChunk_draws_comm (d : Reg) (c : Coef) (s : State) :
    State.offerChunk d c { s with draws := n } = { s.offerChunk d c with draws := n } := by
  unfold State.offerChunk
  split <;> rfl

theorem State.takeChunk_draws_comm (d : Reg) (s : State) :
    State.takeChunk d { s with draws := n } = { s.takeChunk d with draws := n } := by
  unfold State.takeChunk
  dsimp only
  split
  · exact State.offerChunk_draws_comm n d _ s.dropChunk
  · rfl

theorem State.finishSampu_draws_comm (s : State) :
    State.finishSampu { s with draws := n } = { s.finishSampu with draws := n } := by
  unfold State.finishSampu
  dsimp only
  split <;> rfl

theorem sampuByte_draws_comm (d : Reg) (b : Byte) (s : State) :
    sampuByte d b { s with draws := n } = { sampuByte d b s with draws := n } := by
  have htake : State.takeChunk d (State.accumulate { s with draws := n } b) =
      { (s.accumulate b).takeChunk d with draws := n } := State.takeChunk_draws_comm n d (s.accumulate b)
  rw [sampuByte, htake, State.finishSampu_draws_comm, sampuByte]

theorem cbdByte_draws_comm (value : Nat → Coef) (d : Reg) (b : Byte) (s : State) :
    cbdByte value d b { s with draws := n } = { cbdByte value d b s with draws := n } := by
  unfold cbdByte
  dsimp only
  split <;> rfl

/-- Settles O59, form by form: the sources are found as they were written, and the result is the same function of them. -/
theorem writtenSourcesMakeNoDraw : Obligations.WrittenSourcesMakeNoDraw := by
  intro i s n h
  cases i with
  | nop | pzero => rfl
  | sadd d a b | ssub d a b | smul d a b =>
    obtain ⟨ha, hb⟩ := Bool.and_eq_true_iff.1 h
    exact next_scalarResult_draws n _ d ha hb
  | sinv d a => exact execSinv_draws n d h
  | padd d a b | psub d a b | pmul d a b =>
    obtain ⟨ha, hb⟩ := Bool.and_eq_true_iff.1 h
    exact next_polyResult_draws n d (congrArg₂ _ (State.poly_draws n ha) (State.poly_draws n hb))
  | pmac d a b =>
    obtain ⟨hda, hb⟩ := Bool.and_eq_true_iff.1 h
    obtain ⟨hd, ha⟩ := Bool.and_eq_true_iff.1 hda
    exact next_polyResult_draws n d
      (by rw [State.poly_draws n hd, State.poly_draws n ha, State.poly_draws n hb])
  | ntt d a | intt d a => exact next_polyResult_draws n d (congrArg _ (State.poly_draws n h))
  | sampu d => exact streamStep_draws n 1 (sampuByte_draws_comm n d)
  | cbd1 d | cbd2 d => exact streamStep_draws n 2 (cbdByte_draws_comm n _ d)
  | cmp10 a | cmp3 a | ser13 a => exact next_bytesResult_draws n (congrArg _ (State.poly_draws n h))
  | dec10 d | dec3 d => exact next_polyResult_draws n d (congrArg _ (State.bytes_draws n h))
  | des13 d => exact execDes13_draws n d h

end Sys2Proof.Machine
end

section
/-! PROOFS. What no command touches (10_state.md sections 2 and 4, 45_codec.md R230): each form writes its destination's file. -/

namespace Sys2Proof.Machine

/-- The files that the command `i` leaves as they are. -/
def KeepsOtherFiles (i : Instr) (s t : State) : Prop :=
  (scalarDestination i = none → t.S = s.S) ∧ (polyDestination i = none → t.PR = s.PR) ∧
    (bufferRegion i = 0 → SameBuf s t) ∧ SameBufFrom 104 s t

variable {i : Instr} {s t : State}

theorem SameBuf.sameBufFrom (h : SameBuf s t) (n : Nat) : SameBufFrom n s t := by
  obtain ⟨hbyte, horigin⟩ := h
  exact fun k _ => ⟨hbyte k, by rw [horigin]⟩

theorem keepsOtherFiles_of_sameData (h : SameData s t) : KeepsOtherFiles i s t := by
  obtain ⟨hS, hPR, hbuf⟩ := h
  exact ⟨fun _ => hS, fun _ => hPR, fun _ => hbuf, hbuf.sameBufFrom 104⟩

theorem keepsOtherFiles_of_scalar {d : Reg} (hd : scalarDestination i = some d) (hPR : t.PR = s.PR) (hbuf : SameBuf s t) :
    KeepsOtherFiles i s t :=
  ⟨fun h => by simp [hd] at h, fun _ => hPR, fun _ => hbuf, hbuf.sameBufFrom 104⟩

theorem keepsOtherFiles_of_poly {d : Reg} (hd : polyDestination i = some d) (hS : t.S = s.S) (hbuf : SameBuf s t) :
    KeepsOtherFiles i s t :=
  ⟨fun _ => hS, fun h => by simp [hd] at h, fun _ => hbuf, hbuf.sameBufFrom 104⟩

/-- A packing command stores below byte 104 (45_codec.md R230). -/
theorem bytesResult_sameBufFrom (hwf : Memory.wf s.BUF) {bs : List Byte} (hlen : bs.length ≤ 104) :
    SameBufFrom 104 s (bytesResult bs s) := by
  obtain ⟨hrising, -⟩ := hwf
  refine fun k hk => ⟨?_, ?_⟩
  · rw [bytesResult_byte bs s k hrising (by omega), if_neg (by omega)]
  · refine (markBytes_getElem? s.bufOrigin 0 bs.length .written k).trans (if_neg ?_)
    omega

/-- Settles O60, by the effects of a command's engine step and the destination that each names. -/
theorem commandsTouchOnlyTheirFiles : Obligations.CommandsTouchOnlyTheirFiles := by
  intro i s t hwf ht
  refine exec_of (P := KeepsOtherFiles i s) ht ?complete ?error ?scalar ?poly ?bytes ?decode ?hold ?sampu ?cbd
  case complete => exact keepsOtherFiles_of_sameData s.complete_sameData
  case error => exact fun _ => keepsOtherFiles_of_sameData ⟨rfl, rfl, fun _ => rfl, rfl⟩
  case scalar => exact fun d v hd => keepsOtherFiles_of_scalar hd rfl ⟨fun _ => rfl, rfl⟩
  case poly => exact fun d v hd => keepsOtherFiles_of_poly hd rfl ⟨fun _ => rfl, rfl⟩
  case bytes =>
    intro bs hregion hpos hlen
    exact ⟨fun _ => rfl, fun _ => rfl, fun h => absurd (hregion.trans h) hpos.ne', bytesResult_sameBufFrom hwf hlen⟩
  case decode => exact fun _ => keepsOtherFiles_of_sameData ⟨rfl, rfl, fun _ => rfl, rfl⟩
  case hold => exact keepsOtherFiles_of_sameData ⟨rfl, rfl, fun _ => rfl, rfl⟩
  case sampu =>
    rintro d b rest rfl - - -
    have hkeeps := sampuByte_keeps d b { s with FIFO := rest }
    exact keepsOtherFiles_of_poly rfl hkeeps.scalars (hkeeps.sameBuf (sampuByte_draws ..))
  case cbd =>
    rintro value d b rest hi - - -
    have hkeeps := cbdByte_keeps value d b { s with FIFO := rest }
    refine keepsOtherFiles_of_poly (d := d) ?_ hkeeps.scalars (hkeeps.sameBuf (cbdByte_draws ..))
    obtain rfl | rfl := hi <;> rfl

end Sys2Proof.Machine
end

section
/-! PROOFS. The engine owns the data files while BUSY = 1 (20_memory.md R70, 40_command.md R121). -/

namespace Sys2Proof.Machine

variable {s t : State}

/-! ### Reads of the data windows -/

/-- The word addresses of the scalar, buffer and polynomial windows (20_memory.md R61). -/
theorem locate_window {a : BitVec 12} (h : (0x40 ≤ a.toNat ∧ a.toNat ≤ 0x5F) ∨ (0x80 ≤ a.toNat ∧ a.toNat ≤ 0x9F) ∨
    (0x400 ≤ a.toNat ∧ a.toNat ≤ 0xBFF)) :
    (∃ r, locate a = .scalar r) ∨ (∃ k, locate a = .buffer k) ∨ ∃ p j, locate a = .coef p j := by
  obtain h | h | h := h
  · exact .inl ⟨_, by simp (disch := omega) only [locate, if_neg, if_pos]; rfl⟩
  · exact .inr (.inl ⟨_, by simp (disch := omega) only [locate, if_neg, if_pos]; rfl⟩)
  · exact .inr (.inr ⟨_, _, by simp (disch := omega) only [locate, if_neg, if_pos]; rfl⟩)

theorem State.windowRead_of_busy (hbusy : s.busy = true) (v : Word) : s.windowRead v = Config.busyReadData s.draws :=
  if_pos hbusy

/-! ### Writes -/

/-- S, PR, BUF and the command in flight are as before. -/
def EngineOwns (s t : State) : Prop :=
  SameData s t ∧ t.busy = true ∧ SameInFlight s t ∧ t.decoded = s.decoded ∧ t.lastCmd = s.lastCmd

/-- The fields of the host's side may change beside a command in flight. -/
theorem engineOwns_host (hbusy : s.busy = true) (fifo : List Byte) (done err werr sovf doneIE errIE : Bool) (cause : BitVec 4) :
    EngineOwns s { s with
      FIFO := fifo, done := done, err := err, werr := werr, sovf := sovf, doneIE := doneIE, errIE := errIE, cause := cause } :=
  ⟨⟨rfl, rfl, fun _ => rfl, rfl⟩, hbusy, ⟨rfl, rfl, rfl, rfl⟩, rfl, rfl⟩

/-- Settles O45: every write of the data files, an issue and a flush ask for BUSY = 0, and the soft reset is set apart. -/
theorem engineOwnsTheDataWhileBusy : Obligations.EngineOwnsTheDataWhileBusy := by
  intro s hbusy
  have hidle : ¬ s.busy = false := by simp [hbusy]
  refine ⟨fun a ha => ?_, fun a w hsrst => ⟨_, rfl, ?_⟩⟩
  · obtain ⟨r, h⟩ | ⟨k, h⟩ | ⟨p, j, h⟩ := locate_window ha <;> rw [State.readWord, h]
    · exact State.windowRead_of_busy hbusy _
    · exact State.windowRead_of_busy hbusy _
    · exact State.windowRead_of_busy hbusy _
  · refine State.hostWrite_effects (P := EngineOwns s) a w ?same ?werr ?issue ?status ?reset ?flush ?inten ?push ?sovf ?scalar
      ?buffer ?coef
    case issue | flush | scalar | buffer | coef => exact fun h => absurd h hidle
    case reset => exact fun ha hw => absurd ⟨ha, hw⟩ hsrst
    all_goals intros; exact engineOwns_host hbusy _ _ _ _ _ _ _ _

end Sys2Proof.Machine
end

section
/-! PROOFS. STATUS as a number, and its write-1-to-clear (10_state.md R28, R29). -/

namespace Sys2Proof.Machine

theorem flagBit_toNat (b : Bool) {n : Nat} (hn : n < 32) : (flagBit b n).toNat = 2 ^ n * b.toNat := by
  cases b with
  | false => rfl
  | true =>
    have hfits : 2 ^ n < 2 ^ 32 := Nat.pow_lt_pow_right (by decide) hn
    rw [flagBit, if_pos rfl, BitVec.toNat_ofNat, Nat.mod_eq_of_lt hfits, Bool.toNat_true, Nat.mul_one]

/-- A flag above the bits of a word adds its bit to it. -/
theorem or_flagBit_toNat {w : Word} {n : Nat} (hw : w.toNat < 2 ^ n) (hn : n < 32) (b : Bool) :
    (w ||| flagBit b n).toNat = w.toNat + 2 ^ n * b.toNat := by
  rw [BitVec.toNat_or, flagBit_toNat b hn, Nat.or_comm, ← Nat.two_pow_add_eq_or_of_lt hw, Nat.add_comm]

/-- SCOUNT is the length of FIFO, which fits its seven bits (10_state.md R36). -/
theorem scount_toNat {c : Nat} (hc : c ≤ 64) : ((BitVec.ofNat 7 c).zeroExtend 32 <<< 8).toNat = 2 ^ 8 * c := by
  rw [BitVec.toNat_shiftLeft, BitVec.toNat_setWidth, BitVec.toNat_ofNat, Nat.shiftLeft_eq]
  omega

theorem State.statusWord_toNat {s : State} (hlen : s.FIFO.length ≤ 64) :
    s.statusWord.toNat = s.busy.toNat + 2 * s.done.toNat + 4 * s.err.toNat + 8 * s.swait.toNat + 16 * s.werr.toNat +
      32 * s.sovf.toNat + 256 * s.FIFO.length := by
  have hbusy := s.busy.toNat_le
  have hdone := s.done.toNat_le
  have herr := s.err.toNat_le
  have hswait := s.swait.toNat_le
  have hwerr := s.werr.toNat_le
  have hsovf := s.sovf.toNat_le
  have h0 : (flagBit s.busy 0).toNat = s.busy.toNat := by rw [flagBit_toNat _ (by decide), pow_zero, one_mul]
  have h1 := or_flagBit_toNat (w := flagBit s.busy 0) (n := 1) (by omega) (by decide) s.done
  have h2 := or_flagBit_toNat (n := 2) (by rw [h1]; omega) (by decide) s.err
  have h3 := or_flagBit_toNat (n := 3) (by rw [h2]; omega) (by decide) s.swait
  have h4 := or_flagBit_toNat (n := 4) (by rw [h3]; omega) (by decide) s.werr
  have h5 := or_flagBit_toNat (n := 5) (by rw [h4]; omega) (by decide) s.sovf
  have hflags : (flagBit s.busy 0 ||| flagBit s.done 1 ||| flagBit s.err 2 ||| flagBit s.swait 3 ||| flagBit s.werr 4 |||
      flagBit s.sovf 5).toNat < 2 ^ 8 := by omega
  rw [State.statusWord, BitVec.toNat_or, State.scount, scount_toNat hlen, Nat.or_comm, ← Nat.two_pow_add_eq_or_of_lt hflags]
  omega

/-- Settles O47: no two fields of STATUS share a bit, and the write clears field by field. -/
theorem statusFieldsAndClears : Obligations.StatusFieldsAndClears := by
  intro s w hlen
  refine ⟨s.readWord_status, State.statusWord_toNat hlen, s.readWord_cause, s.clearFlags w, s.hostWrite_status w, ?_⟩
  exact ⟨rfl, rfl, rfl, rfl, rfl, rfl, rfl, rfl, rfl, rfl, ⟨rfl, rfl, rfl, rfl⟩, rfl, ⟨rfl, rfl, rfl⟩, rfl, rfl, fun _ => rfl,
    rfl⟩

end Sys2Proof.Machine
end

section
/-! PROOFS. What INTT computes (43_ntt.md R184): the powers of the 64 points are orthogonal, so the scaled inverse sums are the
coefficients whose values at the points are the lanes of PR[A]. -/

namespace Sys2Proof.Machine

/-! ### PSI has order 128 -/

theorem neg_one_ne_one_mod_q : (-1 : ZMod Config.q) ≠ 1 := by decide

theorem orderOf_psiResidue : orderOf psiResidue = 2 ^ (6 + 1) :=
  orderOf_eq_prime_pow (by rw [show (2 : Nat) ^ 6 = 64 from rfl, psiResidue_pow_64]; exact neg_one_ne_one_mod_q)
    (by rw [pow_succ, pow_mul, show (2 : Nat) ^ 6 = 64 from rfl, psiResidue_pow_64, neg_one_sq])

theorem brv6_brv6 : ∀ k < 64, brv6 (brv6 k) = k := by decide

theorem brv6_lt (i : Nat) : brv6 i < 64 := by
  unfold brv6
  omega

/-- The 64 points are distinct. -/
theorem evalPoint_injective {i k : Nat} (hi : i < 64) (hk : k < 64) (h : evalPoint i = evalPoint k) : i = k := by
  have hlt : ∀ i, 2 * brv6 i + 1 < orderOf psiResidue := fun i => by
    have := brv6_lt i
    rw [orderOf_psiResidue]
    omega
  have hexp : 2 * brv6 i + 1 = 2 * brv6 k + 1 := pow_injOn_Iio_orderOf (hlt i) (hlt k) h
  have hbrv : brv6 i = brv6 k := by omega
  rw [← brv6_brv6 i hi, hbrv, brv6_brv6 k hk]

/-! ### The inverse points -/

/-- The inverse of the point of lane i: 4601 ^ (2 * brv6 i + 1), with 4601 the inverse of PSI. -/
def inversePoint (i : Nat) : ZMod Config.q := 4601 ^ (2 * brv6 i + 1)

theorem evalPoint_mul_inversePoint (i : Nat) : evalPoint i * inversePoint i = 1 := by
  have hinverse : psiResidue * 4601 = 1 := by
    unfold psiResidue
    decide
  rw [evalPoint, inversePoint, ← mul_pow, hinverse, one_pow]

theorem inversePoint_pow_64 (i : Nat) : inversePoint i ^ 64 = -1 := by
  have h : evalPoint i ^ 64 * inversePoint i ^ 64 = 1 := by rw [← mul_pow, evalPoint_mul_inversePoint, one_pow]
  rw [evalPoint_pow_64] at h
  linear_combination -h

/-- The powers of two points are orthogonal. -/
theorem sum_evalPoint_inversePoint (i k : Lane) :
    (∑ m : Lane, (evalPoint i.val * inversePoint k.val) ^ m.val) = if i = k then 64 else 0 := by
  split_ifs with h
  · simp [h, evalPoint_mul_inversePoint]
  · have hne : evalPoint i.val * inversePoint k.val - 1 ≠ 0 := fun h1 => h (Fin.ext (evalPoint_injective i.isLt k.isLt (by
      linear_combination evalPoint k.val * h1 - evalPoint i.val * evalPoint_mul_inversePoint k.val)))
    have : Fact (Nat.Prime Config.q) := ⟨prime_q⟩
    rw [← Finset.sum_range (fun m => (evalPoint i.val * inversePoint k.val) ^ m)]
    refine (mul_eq_zero.1 ((geom_sum_mul _ 64).trans ?_)).resolve_right hne
    rw [mul_pow, evalPoint_pow_64, inversePoint_pow_64]
    ring

/-! ### The closed form -/

/-- R184's sum for lane j, scaled by NINV. -/
def scaledInverseSum (b : Poly) (j : Lane) : Nat :=
  Config.ninv * ∑ i : Lane, (b.get i).toNat * 4601 ^ ((2 * brv6 i.val + 1) * j.val)

theorem scaledInverseSum_cast (b : Poly) (j : Lane) : (scaledInverseSum b j : ZMod Config.q) =
    ∑ k : Lane, (Config.ninv : ZMod Config.q) * residue b k.val * inversePoint k.val ^ j.val := by
  simp only [scaledInverseSum, residue_val, coefResidue, inversePoint, ← pow_mul]
  push_cast
  rw [Finset.mul_sum]
  simp only [mul_assoc]

/-- The values of the scaled inverse sums at the points are the lanes. -/
theorem sum_scaledInverseSum (b : Poly) (i : Lane) :
    residue b i.val = ∑ j : Lane, (scaledInverseSum b j : ZMod Config.q) * evalPoint i.val ^ j.val := by
  have hninv : (Config.ninv : ZMod Config.q) * 64 = 1 := ninv_mul_pow
  calc residue b i.val
    _ = ∑ k : Lane, (Config.ninv : ZMod Config.q) * residue b k.val * (if i = k then 64 else 0) := by
      simp only [mul_ite, mul_zero, Finset.sum_ite_eq, Finset.mem_univ, if_true]
      linear_combination -residue b i.val * hninv
    _ = ∑ k : Lane, ∑ j : Lane,
          (Config.ninv : ZMod Config.q) * residue b k.val * (evalPoint i.val * inversePoint k.val) ^ j.val := by
      simp only [← sum_evalPoint_inversePoint, Finset.mul_sum]
    _ = ∑ j : Lane, (scaledInverseSum b j : ZMod Config.q) * evalPoint i.val ^ j.val := by
      rw [Finset.sum_comm]
      refine Finset.sum_congr rfl fun j _ => ?_
      rw [scaledInverseSum_cast, Finset.sum_mul]
      refine Finset.sum_congr rfl fun k _ => ?_
      rw [mul_pow]
      ring

/-- Settles O25: INTT finds the coefficients from their values at the points, and those of the scaled sums are the lanes. -/
theorem inttIsTheScaledInverseSum : Obligations.InttIsTheScaledInverseSum := by
  intro b j hb
  have h := inttPoly_get_of_values hb (fun j => (scaledInverseSum b j : Int))
    (fun i => by simpa only [Int.cast_natCast] using sum_scaledInverseSum b i) j
  exact_mod_cast h

end Sys2Proof.Machine
end
